-- ==== Sys2Proof/Word.lean ====
section
/-! DEFINITION. The words of the part: an 8-bit symbol, the 64 data symbols of a line, its eight check symbols, and a
codeword of 72 symbols (spec file 01, R5). The functions that encode, mark and classify codewords stand in
Machine/Integrity.lean. -/

namespace Sys2Proof

/-- One symbol of a codeword, one byte of a line or of a frame (00_scope, "Symbol"). -/
abbrev Byte := BitVec 8

/-- The 64 data bytes of a line; byte `i` is symbol `i` (R5). -/
abbrev Data := Vector Byte 64

/-- The check symbols 64..71; element `j` is symbol `64 + j` (R5). -/
abbrev CheckSymbols := Vector Byte 8

/-- A codeword of 72 symbols: symbols 0..63 carry data, symbols 64..71 the check code (R5). -/
structure Codeword where
  /-- symbols 0..63 -/
  data : Data
  /-- symbols 64..71 -/
  check : CheckSymbols
  deriving DecidableEq, Repr

/-- 64 zero bytes, the data a POISON or UNCORRECTABLE outcome yields (R10). -/
def Data.zero : Data := Vector.replicate 64 0

/-- Eight zero symbols. -/
def CheckSymbols.zero : CheckSymbols := Vector.replicate 8 0

/-- 72 zero symbols. -/
def Codeword.zero : Codeword := ⟨Data.zero, CheckSymbols.zero⟩

end Sys2Proof
end

