-- ==== Sys2Proof/Syntax.lean ====
section
/-! DEFINITION. The commands of the part: one constructor per row of spec/opcode_table.json, in the table's order, with the
operands the rules of spec/ give each row. A management command's operands are the parameter bytes of R174 as numbers,
unchecked: the command's own rule checks them. -/

namespace Sys2Proof

/-- The block whose oldest containment request Bridge Control takes (R136: requests of one block are taken in the order it
handed them, requests of different blocks in either order). -/
inductive RequestingBlock where
  | memoryPort
  | requestHandler
  deriving DecidableEq, Repr

/-- What RESET_N does (R185). -/
inductive ResetEdge where
  /-- it goes low -/
  | fall
  /-- it rises, or power-on ends -/
  | rise
  deriving DecidableEq, Repr

/-- The levels of the straps ADDR1 and ADDR0 at a happening (R173). -/
structure Straps where
  addr1 : Bool
  addr0 : Bool
  deriving DecidableEq, Repr

/-- One happening that the world presents to the part. -/
inductive Instr where
  /-- RESET_N goes low and holds the part in hard reset, or rises and ends it, when the straps are read (R143, R173, R185). -/
  | hardReset (edge : ResetEdge) (straps : Straps)
  /-- A low pulse on LINK_RESET_N of this many nanoseconds returns high (R161, R185). -/
  | linkReset (pulseNs : Nat)
  /-- Host line read; `line` is the four address bytes, of which bits 0..27 carry h (R81, R187). -/
  | rd (tag : Fin 32) (line : BitVec 32)
  /-- Host full line write (R88, R187). -/
  | wr (tag : Fin 32) (line : BitVec 32) (data : Data)
  /-- Host partial line write; bit i of the mask selects data byte i (R89, R187). -/
  | wrp (tag : Fin 32) (line : BitVec 32) (data : Data) (mask : BitVec 64)
  /-- A request message whose kind byte is not 01h, 02h or 03h (R158, R187). -/
  | malformed (kind : Byte)
  /-- Memory answer to an MRD (R164, R166). -/
  | readData (gen : Byte) (tag : Fin 64) (symbols : Codeword)
  /-- Memory answer to an MWR (R164, R166). -/
  | writeAck (gen : Byte) (tag : Fin 64)
  /-- The timer of the active operation under this tag runs out (R167). -/
  | memoryTimeout (tag : Fin 64)
  /-- The patrol interval timer runs out (R115). -/
  | intervalTimerRunOut
  /-- The Health Tracker takes the oldest handed report (R101). -/
  | reportTaken
  /-- The Health Tracker takes the oldest pass-end notice (R110). -/
  | passEndNotice
  /-- The Health Tracker takes the engine's oldest notice, a STRANDED notice (R108). -/
  | strandedNotice
  /-- The Health Tracker takes the engine's oldest notice, a removal notice (R109). -/
  | removalNotice
  /-- Bridge Control takes the oldest containment request of a block (R136). -/
  | containmentRequest (block : RequestingBlock)
  /-- The Repair Engine takes a job start (R43). -/
  | jobStart
  /-- A command frame that runs no command ends (R174); the bytes are those after the address. -/
  | frameRejected (frame : List Byte)
  | identify
  | status
  | configGet (id : Byte)
  | configSet (id : Byte) (value : BitVec 32)
  /-- START with mode 00h (R132). -/
  | startKeep
  /-- START with mode 01h (R132). -/
  | startFormat
  | softReset
  | forceContain
  | containRead (clear : Byte)
  | mapLoad (region : BitVec 32) (spare : Byte)
  | mapRead (position : Byte)
  | mapFind (region : BitVec 32)
  | spareRead (spare : Byte)
  | spareMarkBad (spare : Byte)
  | spareTest (spare : Byte)
  | retire (region : BitVec 32)
  | queueRead
  | resumeCopy
  | engineStatus
  | suspectRead (position : Byte)
  | suspectClear (selector : Byte) (region : BitVec 32)
  | patrolStart
  | patrolStop
  | patrolStatus
  | summaryRead
  | summaryClear
  | eventPeek
  | eventPop
  | countersRead
  | countersClear
  | diagFetch (line : BitVec 32)
  | diagSwap
  | diagRead (offset length : Byte)
  | diagStore (line : BitVec 32) (mode : Byte)
  deriving DecidableEq, Repr

end Sys2Proof
end

