-- ==== Sys2Proof/Machine/State.lean ====
section
/-! DEFINITION. The state of the part as plain data: every block's state as the chapters of spec/ give it, the queue of
commands that wait, and the messages the part has sent. `State.reset` is the part right after hard reset. -/

namespace Sys2Proof.Machine

/-! ### Bridge Control (chapter 8) -/

/-- The five bridge states (R130). -/
inductive BridgeState where
  | standby | format | online | degraded | contain
  deriving DecidableEq, Repr

/-- The cause of a containment request (R136). -/
inductive Cause where
  | dsFaultLimit | dsStuck | uePolicy | forced
  deriving DecidableEq, Repr

/-- A containment request handed to Bridge Control (R136). -/
structure ContainRequest where
  cause : Cause
  /-- present for DS_FAULT_LIMIT and UE_POLICY only -/
  line : Option Nat
  deriving DecidableEq, Repr

/-- The Containment Record (R140). -/
structure ContainRecord where
  valid : Bool
  cause : Cause
  line : Option Nat
  /-- the state history copied at entry, newest first -/
  history : List BridgeState
  pass : BitVec 16
  /-- 0..255, saturating -/
  laterCount : Nat
  latestLater : Option Cause
  deriving DecidableEq, Repr

/-- The format cursor (R133). -/
structure FormatCursor where
  /-- the next physical line to be formatted -/
  line : Nat
  /-- the notice that the hold table is empty has not come yet, and nothing has been issued (R75) -/
  draining : Bool
  deriving DecidableEq, Repr

/-- Bridge Control. -/
structure Bridge where
  state : BridgeState
  /-- up to four states, newest first (R131) -/
  history : List BridgeState
  /-- none since hard reset, or the record (R140) -/
  record : Option ContainRecord
  /-- exists in FORMAT only (R133) -/
  cursor : Option FormatCursor
  /-- requests handed by the Memory Port and not yet taken, oldest first (R136) -/
  fromMemory : List ContainRequest
  /-- requests handed by the Request Handler and not yet taken, oldest first (R136) -/
  fromHandler : List ContainRequest
  deriving DecidableEq, Repr

/-! ### Repair Map, Spare Pool, Retirement Queue, Repair Engine (chapters 2 and 3) -/

/-- The kind of a job or request (R17, R38). -/
inductive JobKind where
  | retire | replace
  deriving DecidableEq, Repr

/-- The origin of a map entry or a request (R17, R38). -/
inductive Origin where
  | health | management | loaded
  deriving DecidableEq, Repr

/-- The state of a map entry; kind, source and cursor exist while it is COPYING only (R17). -/
inductive EntryState where
  | live
  | copying (kind : JobKind) (source cursor : Nat)
  deriving DecidableEq, Repr

/-- One entry of the Repair Map (R17). -/
structure MapEntry where
  region : Nat
  spare : Nat
  state : EntryState
  /-- 0..64 -/
  poisoned : Nat
  origin : Origin
  /-- 0..255, saturating -/
  replacements : Nat
  deriving DecidableEq, Repr

/-- The state of a spare (R33). -/
inductive SpareState where
  | free | testing | inUse | bad
  deriving DecidableEq, Repr

/-- A request of the Retirement Queue (R38). -/
structure Request where
  region : Nat
  kind : JobKind
  origin : Origin
  deriving DecidableEq, Repr

/-- The phase of a copy step, a spare-test line or a patrol visit (R42, R59, R114). -/
inductive Phase where
  | none | waitHold | read | retry | write
  deriving DecidableEq, Repr

/-- The current job record of a copy job (R42). -/
structure CopyJob where
  region : Nat
  kind : JobKind
  spare : Nat
  source : Nat
  /-- the cursor line, the line of the step in progress -/
  cursor : Nat
  phase : Phase
  attempts : Nat
  timeouts : Nat
  /-- in phase WRITE: the codeword in flight is poison-marked, to be counted at its acknowledgement (R25, R48) -/
  poison : Bool
  deriving DecidableEq, Repr

/-- The current job record of a spare test (R42, R55). -/
structure TestJob where
  index : Nat
  line : Nat
  phase : Phase
  timeouts : Nat
  /-- the spare's state before the test -/
  before : SpareState
  deriving DecidableEq, Repr

/-- The engine's state with its current job record (R42). -/
inductive EngineState where
  | idle
  | copying (job : CopyJob)
  | suspended (job : CopyJob)
  | testing (test : TestJob)
  | halted (job : CopyJob)
  deriving DecidableEq, Repr

/-- The result of a spare test (R57). -/
inductive TestResult where
  | good | bad | timeout | abandoned
  deriving DecidableEq, Repr

/-! ### Line Order Unit (chapter 4) -/

/-- The identity of a line for ordering (R62). -/
inductive Key where
  | host (line : Nat)
  | phys (line : Nat)
  deriving DecidableEq, Repr

/-- The owner of a hold (R61) or of a memory operation (R164). FORMAT owns memory operations only. -/
inductive Owner where
  | host (tag : Fin 32)
  | patrol
  | engine
  | diag
  | format
  deriving DecidableEq, Repr

/-- An entry of the Line Hold Table (R61). -/
structure Hold where
  key : Key
  owner : Owner
  /-- ACTIVE, or WAITING -/
  active : Bool
  arrival : BitVec 48
  /-- HOST owners only -/
  orphan : Bool
  deriving DecidableEq, Repr

/-- The Line Order Unit. -/
structure LineOrder where
  /-- the Line Hold Table, in arrival order -/
  entries : List Hold
  /-- the arrival counter -/
  nextArrival : BitVec 48
  /-- orphans of the last link reset that have finished (R73) -/
  finished : Nat
  deriving DecidableEq, Repr

/-! ### Host Link port and Request Handler (chapters 5 and 10) -/

/-- A host request as received (R154). -/
inductive HostReq where
  | rd
  | wr (data : Data)
  | wrp (data : Data) (mask : BitVec 64)
  deriving DecidableEq, Repr

/-- What a host operation is waiting for (R78). -/
inductive HostPhase where
  | waitHold | read | retry | writeback | poisonWrite | dataWrite
  deriving DecidableEq, Repr

/-- An operation record of the Request Handler (R78). -/
structure HostOp where
  tag : Fin 32
  req : HostReq
  /-- the host line h -/
  line : Nat
  /-- the line given at activation (R19, R20) -/
  phys : Option Nat
  phase : HostPhase
  attempts : Nat
  responseSent : Bool
  orphan : Bool
  deriving DecidableEq, Repr

/-- The status of a response (R155). -/
inductive RespStatus where
  | ok | corrected | poisoned | range | notReady | failed
  deriving DecidableEq, Repr

/-- A response message; it is an RDR exactly when it carries data (R155). -/
structure Response where
  tag : Fin 32
  status : RespStatus
  data : Option Data
  deriving DecidableEq, Repr

/-- The Host Link port (R156, R161). -/
structure Link where
  /-- QUIESCE, or UP -/
  quiesce : Bool
  /-- the tags whose tag-table entry is BUSY -/
  busy : List (Fin 32)
  deriving DecidableEq, Repr

/-! ### Health Tracker (chapter 6) -/

/-- The reporter of an error (R101). -/
inductive Reporter where
  | host | patrol
  deriving DecidableEq, Repr

/-- The kind of a report (R101). -/
inductive ReportKind where
  | corrected (symbol : Nat)
  | transient
  | uncorrectable
  deriving DecidableEq, Repr

/-- A report (R101). -/
structure Report where
  kind : ReportKind
  origin : Reporter
  /-- the physical line whose read produced it -/
  line : Nat
  deriving DecidableEq, Repr

/-- Something handed to the Health Tracker and not yet taken (R101, R108 to R110). -/
inductive Handed where
  | report (r : Report)
  | passEnd (pass : BitVec 16)
  | stranded (region : Nat)
  | removal (region : Nat)
  deriving DecidableEq, Repr

/-- The status of a suspect (R100). -/
inductive SuspectStatus where
  | watch | requested | stranded | notified
  deriving DecidableEq, Repr

/-- An entry of the Suspect Table (R99). -/
structure Suspect where
  region : Nat
  /-- 0..255, saturating -/
  count : Nat
  lastSymbol : Option Nat
  spread : Bool
  ue : Bool
  touched : BitVec 16
  status : SuspectStatus
  deriving DecidableEq, Repr

/-! ### Patrol Scrubber (chapter 7) -/

/-- The interval timer (R114); a running timer keeps the length it was started with (R115). -/
inductive Timer where
  | stopped
  | running (us : Nat)
  | runOut
  deriving DecidableEq, Repr

/-- The outcome of a visit's reads that its write follows (R124). -/
inductive Tally where
  | none | corrected | uncorrectable
  deriving DecidableEq, Repr

/-- The visit in progress (R114). -/
structure Visit where
  line : Nat
  phys : Option Nat
  phase : Phase
  attempts : Nat
  /-- outcome so far -/
  tally : Tally
  deriving DecidableEq, Repr

/-- The six per-pass counts (R114). -/
structure PassCounts where
  checked : Nat
  corrected : Nat
  uncorrectable : Nat
  poisoned : Nat
  skipped : Nat
  timeouts : Nat
  deriving DecidableEq, Repr

/-- The figures of a completed pass (R114). -/
structure Summary where
  pass : BitVec 16
  counts : PassCounts
  deriving DecidableEq, Repr

/-- The Patrol Scrubber (R114). -/
structure Patrol where
  running : Bool
  position : Nat
  pass : BitVec 16
  timer : Timer
  due : Bool
  visit : Option Visit
  counts : PassCounts
  summary : Summary
  summaryValid : Bool
  /-- 0..255, saturating -/
  missed : Nat
  deriving DecidableEq, Repr

/-! ### Event Unit (chapter 9) -/

/-- The kind of a memory operation as an event carries it (R145). -/
inductive OpName where
  | mrd | mwr
  deriving DecidableEq, Repr

/-- The owner of a memory operation as an event carries it (R145). -/
inductive OwnerName where
  | host | patrol | engine | diag | format
  deriving DecidableEq, Repr

/-- Origin and action of an UNCORRECTABLE event (R145). -/
inductive UeAction where
  | hostPoisoned | hostContained | patrolPoisoned | copy
  deriving DecidableEq, Repr

/-- An event with its kind's own values (R145). -/
inductive Event where
  | corrected (line symbol : Nat) (origin : Reporter)
  | transient (line reads : Nat) (origin : Reporter)
  | uncorrectable (line : Nat) (hostLine : Option Nat) (action : UeAction)
  | suspectThreshold (region count : Nat)
  | suspectEvicted (region count : Nat)
  | retireQueued (region : Nat) (kind : JobKind) (origin : Origin)
  /-- the reason is always FULL -/
  | retireRefused (region : Nat)
  | jobStarted (region : Nat) (kind : JobKind) (spare : Nat)
  | jobDone (region : Nat) (kind : JobKind) (spare poisoned : Nat)
  | noSpare (region : Nat) (kind : JobKind)
  | copyStalled (region cursor : Nat)
  | spareTested (index : Nat) (result : TestResult)
  | dsTimeout (line : Nat) (op : OpName) (owner : OwnerName)
  | tagClash (tag : Fin 32)
  | malformed (kind : Byte)
  | portQuiesced (finished : Nat)
  | passDone (pass : BitVec 16)
  | formatDone
  | stateChanged (left entered : BridgeState)
  | contained (cause : Cause)
  | lost (count : Nat)
  deriving DecidableEq, Repr

/-- An event record (R144). -/
structure EventRecord where
  seq : BitVec 16
  /-- the patrol's pass number at logging -/
  pass : BitVec 16
  event : Event
  deriving DecidableEq, Repr

/-- The twelve statistics counters, each 0..4,294,967,295 (R151). -/
structure Counters where
  hostReads : Nat
  hostWrites : Nat
  hostPartials : Nat
  respCorrected : Nat
  respPoisoned : Nat
  ueFinal : Nat
  transients : Nat
  retryReads : Nat
  dsTimeouts : Nat
  lateAnswers : Nat
  tagClashes : Nat
  discarded : Nat
  deriving DecidableEq, Repr

/-- The Event Unit (R144, R150, R151). -/
structure EventUnit where
  /-- the Event Queue, head first -/
  queue : List EventRecord
  nextSeq : BitVec 16
  /-- 0..65535, saturating -/
  lost : Nat
  /-- the ALERT_N pin is driven low -/
  alertLow : Bool
  counters : Counters
  deriving DecidableEq, Repr

/-! ### Memory Port (chapter 11) -/

/-- A memory operation's kind, an MWR with the symbols it carries (R164). -/
inductive MemKind where
  | mrd
  | mwr (w : Codeword)
  deriving DecidableEq, Repr

/-- An active entry of the downstream operation table (R165). -/
structure ActiveOp where
  tag : Fin 64
  kind : MemKind
  line : Nat
  owner : Owner
  gen : Byte
  /-- the length its timer was started with -/
  timerUs : Nat
  deriving DecidableEq, Repr

/-- An issue request (R165, R170). -/
structure IssueReq where
  owner : Owner
  kind : MemKind
  line : Nat
  deriving DecidableEq, Repr

/-- A memory operation as sent to the array (R164). -/
structure MemOp where
  gen : Byte
  tag : Fin 64
  line : Nat
  kind : MemKind
  deriving DecidableEq, Repr

/-- The Memory Port. -/
structure MemPort where
  /-- the active entries of the downstream operation table -/
  active : List ActiveOp
  quarantine : List (Fin 64)
  generation : Byte
  /-- the consecutive-fault count, 0..255, saturating -/
  faults : Nat
  /-- the deferred list, in arrival order (R170) -/
  deferred : List IssueReq
  deriving DecidableEq, Repr

/-! ### Management Port (chapter 12) -/

/-- UE_POLICY (R177). -/
inductive UePolicy where
  | poison | contain
  deriving DecidableEq, Repr

/-- The configuration parameters (R177). -/
structure Params where
  memRegions : Nat
  spareCount : Nat
  ceThreshold : Nat
  readRetries : Nat
  uePolicy : UePolicy
  dsTimeoutUs : Nat
  dsFaultLimit : Nat
  patrolIntervalUs : Nat
  alertLevel : Nat
  autoRetire : Bool
  eventCorrected : Bool
  deriving DecidableEq, Repr

/-- The status of a reply frame (R175). -/
inductive Status where
  | done | accepted | busy | badState | badParam | range | duplicate | full | already | notFound | empty | unknown
  | badFrame
  deriving DecidableEq, Repr

/-- A reply: its status and its result bytes (R175). -/
structure Reply where
  status : Status
  result : List Byte
  deriving DecidableEq, Repr

/-- The classification field of a diagnostic buffer (R179). -/
inductive Classification where
  | clean | corrected | poison | uncorrectable | timeout
  deriving DecidableEq, Repr

/-- A diagnostic buffer (R179). -/
structure Buffer where
  symbols : Codeword
  line : Nat
  cls : Classification
  valid : Bool
  deriving DecidableEq, Repr

/-- What a diagnostic operation does (R181, R183). -/
inductive DiagKind where
  | fetch | storeCode | storePoison
  deriving DecidableEq, Repr

/-- The diagnostic operation in progress. -/
structure DiagOp where
  kind : DiagKind
  line : Nat
  deriving DecidableEq, Repr

/-- The Management Port. -/
structure Mgmt where
  /-- the 7-bit bus address (R173) -/
  address : BitVec 7
  /-- the reply buffer (R175) -/
  reply : Reply
  params : Params
  view : Buffer
  fill : Buffer
  /-- the busy flag is set exactly while this is present (R179) -/
  diag : Option DiagOp
  deriving DecidableEq, Repr

/-! ### The whole part -/

/-- The state of the part. -/
structure State where
  /-- the commands that wait, first in, first out (the model's own) -/
  pending : List Instr
  bridge : Bridge
  /-- the Repair Map, in ascending order of host region (R16) -/
  map : List MapEntry
  /-- the Spare Pool: the state of spare index i at position i (R33) -/
  spares : List SpareState
  /-- the Retirement Queue, head first (R38) -/
  queue : List Request
  engine : EngineState
  /-- the last-test record (R57) -/
  lastTest : Option (Nat × TestResult)
  order : LineOrder
  /-- the Request Handler's operation records (R78) -/
  ops : List HostOp
  /-- the Suspect Table, in insertion order (R99) -/
  suspects : List Suspect
  /-- reports and notices handed to the Health Tracker and not yet taken, oldest first -/
  inbox : List Handed
  patrol : Patrol
  ev : EventUnit
  link : Link
  mem : MemPort
  mgmt : Mgmt
  /-- RESET_N is low: the part is held in hard reset (R185) -/
  resetLow : Bool
  /-- the response messages sent since hard reset, oldest first (the model's record of the host link) -/
  hostOut : List Response
  /-- the memory operations sent since hard reset, oldest first (the model's record of the memory port) -/
  memOut : List MemOp
  /-- which free value is next (the model's own) -/
  free : Nat
  deriving DecidableEq, Repr

/-- Why the part would stop with a fault. The spec gives no happening at which the part stops, so there is none. -/
inductive Fault where
  deriving DecidableEq, Repr

/-- Why a command would have no meaning. -/
inductive Refusal where
  /-- raised by an arm of `exec` whose command is not modelled; safe: the model stops where the part goes on -/
  | notModelled (mnemonic : String)
  deriving DecidableEq, Repr

/-! ### After hard reset -/

/-- The parameters' defaults (R177). -/
def Params.default : Params where
  memRegions := 262144
  spareCount := 64
  ceThreshold := 8
  readRetries := 2
  uePolicy := .poison
  dsTimeoutUs := 20
  dsFaultLimit := 4
  patrolIntervalUs := 100
  alertLevel := 48
  autoRetire := true
  eventCorrected := false

/-- All counts 0. -/
def PassCounts.zero : PassCounts := ⟨0, 0, 0, 0, 0, 0⟩

/-- All counters 0. -/
def Counters.zero : Counters := ⟨0, 0, 0, 0, 0, 0, 0, 0, 0, 0, 0, 0⟩

/-- A diagnostic buffer after hard reset: invalid, symbols zero, physical line 0 (R179). DESIGN CHOICE, unsafe: the
classification of an invalid buffer is CLEAN, notes/assumptions/4.md. -/
def Buffer.reset : Buffer := ⟨Codeword.zero, 0, .clean, false⟩

/-- The part right after hard reset, as each chapter's after-reset table gives it. The straps are taken as low
(DESIGN CHOICE, notes/assumptions/5.md), so that the bus address is 2Ch. -/
def State.reset : State where
  pending := []
  bridge := { state := .standby, history := [], record := none, cursor := none, fromMemory := [], fromHandler := [] }
  map := []
  spares := List.replicate 64 .free
  queue := []
  engine := .idle
  lastTest := none
  order := { entries := [], nextArrival := 0, finished := 0 }
  ops := []
  suspects := []
  inbox := []
  patrol :=
    { running := false, position := 0, pass := 0, timer := .stopped, due := false, visit := none,
      counts := PassCounts.zero, summary := ⟨0, PassCounts.zero⟩, summaryValid := false, missed := 0 }
  ev := { queue := [], nextSeq := 0, lost := 0, alertLow := false, counters := Counters.zero }
  link := { quiesce := false, busy := [] }
  mem := { active := [], quarantine := [], generation := 0, faults := 0, deferred := [] }
  mgmt :=
    { address := 0x2C, reply := ⟨.empty, []⟩, params := Params.default, view := Buffer.reset, fill := Buffer.reset,
      diag := none }
  resetLow := false
  hostOut := []
  memOut := []
  free := 0

/-! ### One named update per field -/

def State.setPending (s : State) (x : List Instr) : State := { s with pending := x }
def State.setBridge (s : State) (x : Bridge) : State := { s with bridge := x }
def State.setMap (s : State) (x : List MapEntry) : State := { s with map := x }
def State.setSpares (s : State) (x : List SpareState) : State := { s with spares := x }
def State.setQueue (s : State) (x : List Request) : State := { s with queue := x }
def State.setEngine (s : State) (x : EngineState) : State := { s with engine := x }
def State.setLastTest (s : State) (x : Option (Nat × TestResult)) : State := { s with lastTest := x }
def State.setOrder (s : State) (x : LineOrder) : State := { s with order := x }
def State.setOps (s : State) (x : List HostOp) : State := { s with ops := x }
def State.setSuspects (s : State) (x : List Suspect) : State := { s with suspects := x }
def State.setInbox (s : State) (x : List Handed) : State := { s with inbox := x }
def State.setPatrol (s : State) (x : Patrol) : State := { s with patrol := x }
def State.setEv (s : State) (x : EventUnit) : State := { s with ev := x }
def State.setLink (s : State) (x : Link) : State := { s with link := x }
def State.setMem (s : State) (x : MemPort) : State := { s with mem := x }
def State.setMgmt (s : State) (x : Mgmt) : State := { s with mgmt := x }
def State.setResetLow (s : State) (x : Bool) : State := { s with resetLow := x }
def State.setHostOut (s : State) (x : List Response) : State := { s with hostOut := x }
def State.setMemOut (s : State) (x : List MemOp) : State := { s with memOut := x }
def State.setFree (s : State) (x : Nat) : State := { s with free := x }

end Sys2Proof.Machine
end

