-- ==== Sys2Proof/Machine/Flags.lean ====
section
/-! DEFINITION. The part's flags and levels: the ALERT_N pin (R150), the diagnostic busy flag (R179), the tag table (R156),
and saturating counts. -/

namespace Sys2Proof.Machine

/-- Add 1 to a count that stays at `top` once it has reached it. -/
def satSucc (top n : Nat) : Nat := if n < top then n + 1 else n

/-- The condition under which ALERT_N is driven low (R150). -/
def State.alertCondition (s : State) : Bool :=
  s.mgmt.params.alertLevel ≤ s.ev.queue.length || s.bridge.state = .contain

/-- Re-evaluate ALERT_N (R150). -/
def State.refreshAlert (s : State) : State := s.setEv { s.ev with alertLow := s.alertCondition }

/-- The diagnostic busy flag (R179). -/
def State.diagBusy (s : State) : Bool := s.mgmt.diag.isSome

/-- The tag-table entry of a host tag is BUSY (R156). -/
def State.tagBusy (s : State) (t : Fin 32) : Bool := s.link.busy.contains t

/-- The bridge is ONLINE or DEGRADED, the states in which host requests, jobs and visits are served (R130). -/
def State.inService (s : State) : Bool := s.bridge.state = .online || s.bridge.state = .degraded

/-- The bridge is in FORMAT or CONTAIN, the states in which a spare test or diagnostic in progress ends (R58, R184). -/
def State.closing (s : State) : Bool := s.bridge.state = .format || s.bridge.state = .contain

end Sys2Proof.Machine
end

