-- ==== Sys2Proof/Config/CodeLaw.lean ====
section
/-! DEFINITION. The law of the code: the poison pattern (R7), the distance of two codewords, and what R6 and R8 say of the
check function. -/

namespace Sys2Proof

/-- The fixed poison pattern, check symbols 64..71 (R7). -/
def poisonPattern : CheckSymbols := #v[0xE1, 0x2D, 0xB4, 0x78, 0x1E, 0xD2, 0x4B, 0x87]

/-- Fold eight check symbols with the poison pattern, symbol by symbol, by exclusive-or (R7). -/
def foldPattern (cs : CheckSymbols) : CheckSymbols := Vector.ofFn fun j : Fin 8 => cs[j] ^^^ poisonPattern[j]

/-- The distance of two codewords: in how many of the 72 symbol positions they differ (R8). -/
def Codeword.dist (a b : Codeword) : Nat :=
  (List.finRange 64).countP (fun i => a.data[i] ≠ b.data[i]) +
    (List.finRange 8).countP (fun j => a.check[j] ≠ b.check[j])

/-- A member of the set of R8 under check function `f`: a valid codeword (R6) or a poison-marked codeword (R7). -/
def CodeMember (f : Data → CheckSymbols) (w : Codeword) : Prop :=
  w.check = f w.data ∨ w.check = foldPattern (f w.data)

/-- What R6 and R8 say of the check function: zero data has zero check symbols, and any two distinct members of the set of
valid and poison-marked codewords differ in at least four positions. -/
def CodeLaw (f : Data → CheckSymbols) : Prop :=
  f Data.zero = CheckSymbols.zero ∧
    ∀ a b : Codeword, CodeMember f a → CodeMember f b → a ≠ b → 4 ≤ a.dist b

end Sys2Proof
end

