-- ==== Sys2Proof/Config/CodeWitness.lean ====
section
/-! DEFINITION. A check function that meets the law of R6 and R8, so that the law is known not to be contradictory. The
model never computes with it: its code is the opaque `Config.code`. The function is a linear code over the 256-element
field: four copies of the plain symbol sum, two of the sum weighted by powers of the generator, two of the sum weighted by
the powers' squares. -/

namespace Sys2Proof

/-- Multiplication by the generator of the 256-element field with polynomial 11Dh. -/
def xtime (v : Byte) : Byte := (v <<< 1) ^^^ (if v.msb then 0x1D else 0)

/-- The exclusive-or of `g i` over the 64 data positions. -/
def xorSum (g : Fin 64 → Byte) : Byte := (List.finRange 64).foldr (fun i acc => g i ^^^ acc) 0#8

/-- The three sums of the witness: plain, weighted by powers, weighted by squared powers. -/
def plainSum (d : Fin 64 → Byte) : Byte := xorSum d
def powerSum (d : Fin 64 → Byte) : Byte := xorSum fun i => xtime^[i.val] (d i)
def squareSum (d : Fin 64 → Byte) : Byte := xorSum fun i => xtime^[2 * i.val] (d i)

/-- The witness check function. -/
def witnessCheck (d : Data) : CheckSymbols :=
  let s := plainSum fun i => d[i]
  let p := powerSum fun i => d[i]
  let q := squareSum fun i => d[i]
  #v[s, s, s, s, p, p, q, q]

/-! ### Linearity -/

theorem xor_left_comm' (a b d : Byte) : a ^^^ (b ^^^ d) = b ^^^ (a ^^^ d) := by
  rw [← BitVec.xor_assoc, BitVec.xor_comm a, BitVec.xor_assoc]

theorem xtime_xor (a b : Byte) : xtime (a ^^^ b) = xtime a ^^^ xtime b := by
  simp only [xtime, BitVec.shiftLeft_xor_distrib, BitVec.msb_xor]
  cases a.msb <;> cases b.msb <;> simp [BitVec.xor_assoc, xor_left_comm' (a <<< 1), BitVec.xor_comm (b <<< 1)]

theorem xtime_zero : xtime 0#8 = 0#8 := by decide

theorem xtime_iter_xor (n : Nat) (a b : Byte) : xtime^[n] (a ^^^ b) = xtime^[n] a ^^^ xtime^[n] b := by
  induction n generalizing a b with
  | zero => rfl
  | succ n ih => simp only [Function.iterate_succ_apply, xtime_xor, ih]

theorem xtime_iter_zero (n : Nat) : xtime^[n] 0#8 = 0#8 := by
  induction n with
  | zero => rfl
  | succ n ih => simp only [Function.iterate_succ_apply, xtime_zero, ih]

theorem foldr_xor (l : List (Fin 64)) (g h : Fin 64 → Byte) :
    l.foldr (fun i acc => (g i ^^^ h i) ^^^ acc) 0#8 =
      l.foldr (fun i acc => g i ^^^ acc) 0#8 ^^^ l.foldr (fun i acc => h i ^^^ acc) 0#8 := by
  induction l with
  | nil => simp
  | cons x l ih =>
    simp only [List.foldr_cons, ih]
    rw [BitVec.xor_assoc, BitVec.xor_assoc]
    congr 1
    rw [xor_left_comm']

theorem xorSum_xor (g h : Fin 64 → Byte) : xorSum (fun i => g i ^^^ h i) = xorSum g ^^^ xorSum h :=
  foldr_xor _ g h

/-- A sum over a list without repeats is the sum over the positions where the summand is not zero. -/
theorem foldr_filter (l : List (Fin 64)) (g : Fin 64 → Byte) (p : Fin 64 → Bool) (h : ∀ i, p i = false → g i = 0#8) :
    l.foldr (fun i acc => g i ^^^ acc) 0#8 = (l.filter p).foldr (fun i acc => g i ^^^ acc) 0#8 := by
  induction l with
  | nil => rfl
  | cons x l ih =>
    cases hp : p x
    · simp [hp, h x hp, ih]
    · simp [hp, ih]

theorem xorSum_support (g : Fin 64 → Byte) (p : Fin 64 → Bool) (h : ∀ i, p i = false → g i = 0#8) :
    xorSum g = ((List.finRange 64).filter p).foldr (fun i acc => g i ^^^ acc) 0#8 := foldr_filter _ g p h

/-! ### The generator -/

theorem xtime_injective : Function.Injective xtime := by
  intro a b h
  have key : ∀ v : Byte, (fun w : Byte => (w >>> 1) ^^^ (if w.getLsbD 0 then 0x8E else 0)) (xtime v) = v := by decide
  rw [← key a, ← key b, h]

theorem xtime_orbit : ∀ v : Byte, v = 0#8 ∨ v ∈ List.iterate xtime 1 255 := by decide +kernel

theorem xtime_period : ∀ m : Fin 63, xtime^[m.val + 1] 1 ≠ 1 := by decide +kernel

theorem xtime_iter_comm (m n : Nat) (v : Byte) : xtime^[m] (xtime^[n] v) = xtime^[n] (xtime^[m] v) := by
  rw [← Function.iterate_add_apply, ← Function.iterate_add_apply, Nat.add_comm]

theorem xtime_iter_fixed (m : Nat) (hm : m < 63) (v : Byte) (h : xtime^[m + 1] v = v) : v = 0#8 := by
  rcases xtime_orbit v with h0 | hv
  · exact h0
  · obtain ⟨e, -, he⟩ := List.mem_iterate.1 hv
    subst he
    rw [xtime_iter_comm] at h
    exact absurd (xtime_injective.iterate e h) (xtime_period ⟨m, hm⟩)

theorem xtime_powers_distinct (i j : Fin 64) (hij : i ≠ j) (v : Byte) (h : xtime^[i.val] v = xtime^[j.val] v) :
    v = 0#8 := by
  have aux : ∀ a b : Nat, a < b → b < 64 → xtime^[a] v = xtime^[b] v → v = 0#8 := by
    intro a b hab hb h
    obtain ⟨m, rfl⟩ : ∃ m, b = a + (m + 1) := ⟨b - a - 1, by omega⟩
    rw [Function.iterate_add_apply] at h
    exact xtime_iter_fixed m (by omega) v (xtime_injective.iterate a h).symm
  rcases Nat.lt_or_gt_of_ne (fun e => hij (Fin.ext e)) with hlt | hlt
  · exact aux _ _ hlt j.isLt h
  · exact aux _ _ hlt i.isLt h.symm

/-! ### The distance -/

theorem xor_eq_zero_iff' (a b : Byte) : a ^^^ b = 0#8 ↔ a = b := BitVec.xor_eq_zero_iff

/-- The difference of the data symbols of two codewords. -/
def diff (a b : Codeword) (i : Fin 64) : Byte := a.data[i] ^^^ b.data[i]

theorem powers_sum_ne (i j k : Fin 64) (hij : i ≠ j) (hik : i ≠ k) (u v : Byte) (hu : u ≠ 0#8)
    (h1 : xtime^[i.val] u ^^^ (xtime^[j.val] v ^^^ xtime^[k.val] (u ^^^ v)) = 0#8)
    (h2 : xtime^[2 * i.val] u ^^^ (xtime^[2 * j.val] v ^^^ xtime^[2 * k.val] (u ^^^ v)) = 0#8) : False := by
  have e1 : xtime^[i.val] u ^^^ xtime^[k.val] u = xtime^[j.val] v ^^^ xtime^[k.val] v := by
    rw [xtime_iter_xor] at h1
    rw [← xor_eq_zero_iff', ← h1]
    ac_rfl
  have e2 : xtime^[2 * i.val] u ^^^ xtime^[2 * k.val] u = xtime^[2 * j.val] v ^^^ xtime^[2 * k.val] v := by
    rw [xtime_iter_xor] at h2
    rw [← xor_eq_zero_iff', ← h2]
    ac_rfl
  have sq : ∀ (m : Fin 64) (w : Byte), xtime^[2 * m.val] w ^^^ xtime^[2 * k.val] w =
      xtime^[m.val] (xtime^[m.val] w ^^^ xtime^[k.val] w) ^^^ xtime^[k.val] (xtime^[m.val] w ^^^ xtime^[k.val] w) := by
    intro m w
    rw [xtime_iter_xor, xtime_iter_xor, xtime_iter_comm k.val m.val, Nat.two_mul, Nat.two_mul,
      Function.iterate_add_apply, Function.iterate_add_apply]
    rw [BitVec.xor_assoc, ← BitVec.xor_assoc (xtime^[m.val] (xtime^[k.val] w)), BitVec.xor_self, BitVec.zero_xor]
  rw [sq i u, sq j v, ← e1] at e2
  have e3 : xtime^[i.val] (xtime^[i.val] u ^^^ xtime^[k.val] u) = xtime^[j.val] (xtime^[i.val] u ^^^ xtime^[k.val] u) := by
    have := congrArg (· ^^^ xtime^[k.val] (xtime^[i.val] u ^^^ xtime^[k.val] u)) e2
    simpa [BitVec.xor_assoc] using this
  have z := xtime_powers_distinct i j hij _ e3
  exact hu (xtime_powers_distinct i k hik u ((xor_eq_zero_iff' _ _).1 z))

theorem diff_zero_of_not (a b : Codeword) (i : Fin 64) (h : decide (a.data[i] ≠ b.data[i]) = false) : diff a b i = 0#8 := by
  simp only [ne_eq, decide_not, Bool.not_eq_false', decide_eq_true_eq] at h
  simp [diff, h]

theorem plainSum_diff (a b : Codeword) :
    plainSum (fun i => a.data[i]) ^^^ plainSum (fun i => b.data[i]) = xorSum (diff a b) :=
  (xorSum_xor _ _).symm

theorem powerSum_diff (a b : Codeword) :
    powerSum (fun i => a.data[i]) ^^^ powerSum (fun i => b.data[i]) = xorSum fun i => xtime^[i.val] (diff a b i) := by
  simp only [powerSum, diff, xtime_iter_xor, xorSum_xor]

theorem squareSum_diff (a b : Codeword) :
    squareSum (fun i => a.data[i]) ^^^ squareSum (fun i => b.data[i]) =
      xorSum fun i => xtime^[2 * i.val] (diff a b i) := by
  simp only [squareSum, diff, xtime_iter_xor, xorSum_xor]

/-- Symbols of the witness check, one by one. -/
theorem witnessCheck_get (d : Data) (j : Fin 8) : (witnessCheck d)[j] =
    if j.val < 4 then plainSum (fun i => d[i]) else if j.val < 6 then powerSum (fun i => d[i])
    else squareSum (fun i => d[i]) := by
  fin_cases j <;> rfl

theorem countP_four (p : Fin 8 → Bool) (n : Nat) (l : List (Fin 8)) (hl : l.Sublist (List.finRange 8))
    (hp : ∀ j ∈ l, p j = true) (hn : l.length = n) : n ≤ (List.finRange 8).countP p := by
  rw [← hn, ← List.countP_eq_length.2 hp]
  exact hl.countP_le

/-- Distinct data with check symbols that differ as the witness's do lie at distance four or more. -/
theorem same_kind_dist (a b : Codeword) (hd : a.data ≠ b.data)
    (hp : ∀ j : Fin 8, a.check[j] ^^^ b.check[j] = (witnessCheck a.data)[j] ^^^ (witnessCheck b.data)[j]) :
    4 ≤ a.dist b := by
  set D := (List.finRange 64).filter (fun i => decide (a.data[i] ≠ b.data[i])) with hD
  have hsum : ∀ g : Fin 64 → Byte, (∀ i, decide (a.data[i] ≠ b.data[i]) = false → g i = 0#8) →
      xorSum g = D.foldr (fun i acc => g i ^^^ acc) 0#8 := fun g hg => xorSum_support g _ hg
  have s0 := (plainSum_diff a b).trans (hsum _ (diff_zero_of_not a b))
  have s1 := (powerSum_diff a b).trans (hsum _ (fun i h => by simp [diff_zero_of_not a b i h, xtime_iter_zero]))
  have s2 := (squareSum_diff a b).trans (hsum _ (fun i h => by simp [diff_zero_of_not a b i h, xtime_iter_zero]))
  have nz : ∀ i ∈ D, diff a b i ≠ 0#8 := by
    intro i hi h
    have : a.data[i] ≠ b.data[i] := by simpa [hD] using hi
    exact this ((xor_eq_zero_iff' _ _).1 h)
  have nodup : D.Nodup := (List.nodup_finRange 64).filter _
  have hlen : (List.finRange 64).countP (fun i => decide (a.data[i] ≠ b.data[i])) = D.length := List.countP_eq_length_filter
  have chk : ∀ j : Fin 8, (witnessCheck a.data)[j] ^^^ (witnessCheck b.data)[j] ≠ 0#8 →
      decide (a.check[j] ≠ b.check[j]) = true := by
    intro j h
    rw [← hp j] at h
    exact decide_eq_true (fun e => h ((xor_eq_zero_iff' _ _).2 e))
  have four : plainSum (fun i => a.data[i]) ^^^ plainSum (fun i => b.data[i]) ≠ 0#8 →
      4 ≤ (List.finRange 8).countP (fun j => decide (a.check[j] ≠ b.check[j])) := by
    intro h
    refine countP_four _ 4 [0, 1, 2, 3] (by decide) ?_ rfl
    intro j hj
    refine chk j ?_
    have : j.val < 4 := by fin_cases hj <;> decide
    simpa only [witnessCheck_get, this, if_true] using h
  unfold Codeword.dist
  rw [hlen]
  match hDD : D, nodup, nz, s0, s1, s2 with
  | [], _, _, _, _, _ =>
    exfalso
    apply hd
    ext1 i hi
    by_contra hne
    have : (⟨i, hi⟩ : Fin 64) ∈ D := by simp [hD, hne]
    simp [hDD] at this
  | [i], _, nz, s0, _, _ =>
    have : 4 ≤ _ := four (by rw [s0]; simpa using nz i (by simp))
    omega
  | [i, j], nd, nz, s0, s1, _ =>
    by_cases h0 : plainSum (fun i => a.data[i]) ^^^ plainSum (fun i => b.data[i]) = 0#8
    · have hij : i ≠ j := by simpa using nd
      have e : diff a b i = diff a b j := by
        rw [s0] at h0
        exact (xor_eq_zero_iff' _ _).1 (by simpa using h0)
      have : 2 ≤ (List.finRange 8).countP (fun j => decide (a.check[j] ≠ b.check[j])) := by
        refine countP_four _ 2 [4, 5] (by decide) ?_ rfl
        intro c hc
        refine chk c ?_
        have h4 : ¬ c.val < 4 := by fin_cases hc <;> decide
        have h6 : c.val < 6 := by fin_cases hc <;> decide
        simp only [witnessCheck_get, h4, h6, if_true, if_false, s1, List.foldr_cons, List.foldr_nil, BitVec.xor_zero]
        intro hz
        rw [e] at hz
        exact nz j (by simp) (xtime_powers_distinct i j hij _ ((xor_eq_zero_iff' _ _).1 hz))
      simp only [List.length_cons, List.length_nil]
      omega
    · have := four h0
      omega
  | [i, j, k], nd, nz, s0, s1, s2 =>
    by_cases h0 : plainSum (fun i => a.data[i]) ^^^ plainSum (fun i => b.data[i]) = 0#8
    · have hij : i ≠ j := by intro e; simp [e] at nd
      have hik : i ≠ k := by intro e; simp [e] at nd
      have ek : diff a b k = diff a b i ^^^ diff a b j := by
        rw [s0] at h0
        simp only [List.foldr_cons, List.foldr_nil, BitVec.xor_zero] at h0
        rw [← BitVec.xor_assoc] at h0
        exact ((xor_eq_zero_iff' _ _).1 h0).symm
      have : 1 ≤ (List.finRange 8).countP (fun j => decide (a.check[j] ≠ b.check[j])) := by
        by_cases h1 : powerSum (fun i => a.data[i]) ^^^ powerSum (fun i => b.data[i]) = 0#8
        · by_cases h2 : squareSum (fun i => a.data[i]) ^^^ squareSum (fun i => b.data[i]) = 0#8
          · exfalso
            rw [s1] at h1
            rw [s2] at h2
            simp only [List.foldr_cons, List.foldr_nil, BitVec.xor_zero, ek] at h1 h2
            exact powers_sum_ne i j k hij hik _ _ (nz i (by simp)) h1 h2
          · exact countP_four _ 1 [6] (by decide) (by
              intro c hc
              obtain rfl : c = 6 := by simpa using hc
              exact chk 6 h2) rfl
        · exact countP_four _ 1 [4] (by decide) (by
            intro c hc
            obtain rfl : c = 4 := by simpa using hc
            exact chk 4 h1) rfl
      simp only [List.length_cons, List.length_nil]
      omega
    · have := four h0
      omega
  | _ :: _ :: _ :: _ :: _, _, _, _, _, _ =>
    simp only [List.length_cons]
    omega

theorem poison_nonzero : ∀ j : Fin 8, poisonPattern[j] ≠ 0#8 := by decide

theorem poison_distinct : ∀ v : Byte, 3 ≤ (List.finRange 8).countP (fun j =>
    decide (j.val < 4 ∧ v ≠ poisonPattern[j])) := by decide +kernel

/-- A valid and a poison-marked codeword of the witness lie at distance four or more. -/
theorem mixed_kind_dist (a b : Codeword) 
    (hp : ∀ j : Fin 8, a.check[j] ^^^ b.check[j] =
      (witnessCheck a.data)[j] ^^^ (witnessCheck b.data)[j] ^^^ poisonPattern[j]) : 4 ≤ a.dist b := by
  have three : 3 ≤ (List.finRange 8).countP (fun j => decide (a.check[j] ≠ b.check[j])) := by
    refine (poison_distinct (plainSum (fun i => a.data[i]) ^^^ plainSum (fun i => b.data[i]))).trans ?_
    refine List.countP_mono_left ?_
    intro j _ h
    obtain ⟨h4, hne⟩ := of_decide_eq_true h
    refine decide_eq_true fun e => hne ?_
    have := hp j
    rw [(xor_eq_zero_iff' _ _).2 e] at this
    simp only [witnessCheck_get, h4, if_true] at this
    exact (xor_eq_zero_iff' _ _).1 this.symm
  by_cases hd : a.data = b.data
  · have : 8 ≤ (List.finRange 8).countP (fun j => decide (a.check[j] ≠ b.check[j])) := by
      refine countP_four _ 8 (List.finRange 8) (List.Sublist.refl _) ?_ rfl
      intro j _
      refine decide_eq_true fun e => ?_
      have := hp j
      rw [(xor_eq_zero_iff' _ _).2 e, hd, BitVec.xor_self, BitVec.zero_xor] at this
      exact poison_nonzero j this.symm
    unfold Codeword.dist
    omega
  · have : 1 ≤ (List.finRange 64).countP (fun i => decide (a.data[i] ≠ b.data[i])) := by
      rw [Nat.one_le_iff_ne_zero, Ne, List.countP_eq_zero]
      intro h
      apply hd
      ext1 i hi
      by_contra hne
      exact h ⟨i, hi⟩ (List.mem_finRange _) (decide_eq_true hne)
    unfold Codeword.dist
    omega

/-- The witness meets the law of R6 and R8. -/
theorem witnessCheck_law : CodeLaw witnessCheck := by
  refine ⟨by decide +kernel, ?_⟩
  have fold_get : ∀ (cs : CheckSymbols) (j : Fin 8), (foldPattern cs)[j] = cs[j] ^^^ poisonPattern[j] := by
    intro cs j
    simp [foldPattern]
  rintro a b (ha | ha) (hb | hb) hab
  · refine same_kind_dist a b (fun h => hab ?_) (fun j => by rw [ha, hb])
    cases a; cases b; simp_all
  · exact mixed_kind_dist a b fun j => by rw [ha, hb, fold_get, BitVec.xor_assoc]
  · exact mixed_kind_dist a b fun j => by
      rw [ha, hb, fold_get, BitVec.xor_assoc, BitVec.xor_assoc, BitVec.xor_comm poisonPattern[j]]
  · refine same_kind_dist a b (fun h => hab ?_) (fun j => ?_)
    · cases a; cases b; simp_all
    · rw [ha, hb, fold_get, fold_get]
      rw [BitVec.xor_assoc, xor_left_comm' poisonPattern[j], BitVec.xor_self, BitVec.xor_zero]

end Sys2Proof
end

