-- ==== Sys2Proof/Config.lean ====
section
/-! DEFINITION. What the spec fixes without giving a value, and what it leaves open. Nothing here has a body that Lean can
evaluate: the check function of the code (R6, R8: its law is given, its values are not), whether a LINK_RESET_N pulse of
10 ns or more and shorter than 100 ns is taken (R185), and the order in which responses produced in one happening leave
(R95, R160). -/

namespace Sys2Proof

/-- A check function together with the law R6 and R8 give it. The default only shows that the law can be met; the
model's code is the opaque `Config.code`, of which nothing but the law is known. -/
structure Code where
  /-- the check symbols as a function of the data symbols, with its law -/
  check : { f : Data → CheckSymbols // CodeLaw f } := ⟨witnessCheck, witnessCheck_law⟩
  deriving Inhabited

/-- The code of the part (R6, R8). FREE VALUE: the spec gives the law and no function. DESIGN CHOICE, safe:
notes/assumptions/1.md. -/
opaque Config.code : Code

/-- Whether the n-th LINK_RESET_N pulse of 10 ns or more and shorter than 100 ns is taken (R185, "the part gives no
assurance which"). FREE VALUE, safe: notes/assumptions/2.md. -/
opaque Config.shortPulseTaken : Nat → Bool

/-- A free sort key: the order, at the n-th use, of things produced in one happening "in no order among themselves"
(R95, R160). FREE VALUE, safe: notes/assumptions/3.md. -/
opaque Config.order : Nat → Nat → Nat

end Sys2Proof
end

