-- ==== Sys2Proof/Machine/Integrity.lean ====
section
/-! DEFINITION. The Integrity Unit (spec file 01): encoding, poison-marking and classification. It holds no state (R14). -/

namespace Sys2Proof.Machine

/-- The check symbols of 64 data bytes (R6). Zero data has zero check symbols; of other data only the law of
`Config.code` is known. -/
def checkSymbolsOf (d : Data) : CheckSymbols :=
  if d = Data.zero then CheckSymbols.zero else Config.code.check.val d

/-- The valid codeword of 64 data bytes (R6). -/
def encode (d : Data) : Codeword := ⟨d, checkSymbolsOf d⟩

/-- The poison-marked codeword of 64 data bytes (R7). -/
def poisonMark (d : Data) : Codeword := ⟨d, foldPattern (checkSymbolsOf d)⟩

/-- The codeword is valid (R6). -/
def isValid (w : Codeword) : Bool := w = encode w.data

/-- The codeword is poison-marked (R7). -/
def isPoisonMarked (w : Codeword) : Bool := w = poisonMark w.data

/-- Symbol `i` of a codeword, 0..71 (R5). -/
def symbolAt (w : Codeword) (i : Nat) : Byte :=
  if h : i < 64 then w.data[i] else if h : i - 64 < 8 then w.check[i - 64] else 0

/-- The codeword with symbol `i` replaced. -/
def setSymbol (w : Codeword) (i : Nat) (v : Byte) : Codeword :=
  if h : i < 64 then { w with data := w.data.set i v }
  else if h : i - 64 < 8 then { w with check := w.check.set (i - 64) v } else w

/-- The 72 symbols in order (R180). -/
def symbolList (w : Codeword) : List Byte := (List.range 72).map (symbolAt w)

/-- Every value a symbol can have. -/
def symbolValues : List Byte := (List.range 256).map (BitVec.ofNat 8)

/-- The valid codeword at distance exactly 1, with the position where it differs (R9). By R8 there is at most one. -/
def correction (w : Codeword) : Option (Nat × Codeword) :=
  (List.range 72).findSome? fun s => symbolValues.findSome? fun v =>
    if v ≠ symbolAt w s ∧ isValid (setSymbol w s v) then some (s, setSymbol w s v) else none

/-- The codeword is poison-marked or at distance exactly 1 from a poison-marked codeword (R9). -/
def nearPoison (w : Codeword) : Bool :=
  isPoisonMarked w || (List.range 72).any fun s => symbolValues.any fun v => isPoisonMarked (setSymbol w s v)

/-- The result of a classification (R10): the outcome with the position, the data yielded and the corrected codeword. -/
inductive ReadResult where
  | clean (data : Data)
  | corrected (symbol : Nat) (w : Codeword)
  | poison
  | uncorrectable
  deriving DecidableEq, Repr

/-- Classification (R9, R10). The conditions exclude one another by R8; an exactly poison-marked codeword is looked for
before the search for a correction. -/
def classify (w : Codeword) : ReadResult :=
  if isValid w then .clean w.data
  else if isPoisonMarked w then .poison
  else match correction w with
    | some (s, v) => .corrected s v
    | none => if nearPoison w then .poison else .uncorrectable

/-- The outcome as the staging pair records it (R179, R182). -/
def ReadResult.classification : ReadResult → Classification
  | .clean _ => .clean
  | .corrected _ _ => .corrected
  | .poison => .poison
  | .uncorrectable => .uncorrectable

/-- The merged data of a partial write: selected bytes from the request, the others from the line (R90). -/
def mergeData (mask : BitVec 64) (new old : Data) : Data :=
  Vector.ofFn fun i : Fin 64 => if mask.getLsbD i then new[i] else old[i]

/-- 64 bytes all equal to `k`, the spare-test pattern of line `k` (R56). -/
def patternData (k : Nat) : Data := Vector.replicate 64 (BitVec.ofNat 8 k)

end Sys2Proof.Machine
end

