-- ==== Sys2Proof/Machine/Translation.lean ====
section
/-! DEFINITION. Geometry (spec file 01, R1 to R4) and the Translation Unit (spec file 02): the lookup of a host line, its
inverse, the relation of a physical region, and the changes of the Repair Map. -/

namespace Sys2Proof.Machine

/-! ### Geometry -/

/-- P, the number of physical regions (R1). -/
def State.P (s : State) : Nat := s.mgmt.params.memRegions

/-- S, the number of spare regions (R2). -/
def State.S (s : State) : Nat := s.mgmt.params.spareCount

/-- V = P − S, the number of visible regions (R3). -/
def State.V (s : State) : Nat := s.P - s.S

/-- The region of a line (R1, R3). -/
def regionOf (line : Nat) : Nat := line / 64

/-- The index of a line in its region (R1, R3). -/
def indexOf (line : Nat) : Nat := line % 64

/-- Line `k` of a region (R1). -/
def lineOf (region k : Nat) : Nat := region * 64 + k

/-- Line `k` of spare `i` with `V` visible regions (R2). -/
def spareLine (V i k : Nat) : Nat := lineOf (V + i) k

/-! ### Entries -/

/-- The entry is COPYING. -/
def MapEntry.isCopying (e : MapEntry) : Bool :=
  match e.state with
  | .live => false
  | .copying _ _ _ => true

/-- The source region of an entry that is COPYING. -/
def MapEntry.source? (e : MapEntry) : Option Nat :=
  match e.state with
  | .live => none
  | .copying _ q _ => some q

/-- The entry for a host region. -/
def findEntry (map : List MapEntry) (region : Nat) : Option MapEntry := map.find? fun e => e.region = region

/-- The COPYING entry; at most one exists (R18). -/
def copyingEntry (map : List MapEntry) : Option MapEntry := map.find? MapEntry.isCopying

/-- The entry naming a spare in its spare field. -/
def entryOfSpare (map : List MapEntry) (i : Nat) : Option MapEntry := map.find? fun e => e.spare = i

/-- The COPYING REPLACE entry whose source is physical region `q`. -/
def entryOfOldSpare (map : List MapEntry) (q : Nat) : Option MapEntry :=
  map.find? fun e => match e.state with
    | .copying .replace src _ => src = q
    | _ => false

/-- The map holds a COPYING entry for the host region. -/
def regionUnderCopy (map : List MapEntry) (region : Nat) : Bool :=
  match findEntry map region with
  | some e => e.isCopying
  | none => false

/-! ### Translation -/

/-- The physical line that serves host line `h` (R19). -/
def translate (V : Nat) (map : List MapEntry) (h : Nat) : Nat :=
  match findEntry map (regionOf h) with
  | none => lineOf (regionOf h) (indexOf h)
  | some e =>
    match e.state with
    | .live => spareLine V e.spare (indexOf h)
    | .copying _ q c => if indexOf h < c then spareLine V e.spare (indexOf h) else lineOf q (indexOf h)

/-- The host line that physical line `p` serves, if any (R22). -/
def servedBy (V : Nat) (map : List MapEntry) (p : Nat) : Option Nat :=
  if regionOf p < V then
    match findEntry map (regionOf p) with
    | none => some (lineOf (regionOf p) (indexOf p))
    | some e =>
      match e.state with
      | .live => none
      | .copying .replace _ _ => none
      | .copying .retire _ c => if c ≤ indexOf p then some (lineOf (regionOf p) (indexOf p)) else none
  else
    match entryOfSpare map (regionOf p - V) with
    | some e =>
      match e.state with
      | .live => some (lineOf e.region (indexOf p))
      | .copying _ _ c => if indexOf p < c then some (lineOf e.region (indexOf p)) else none
    | none =>
      match entryOfOldSpare map (regionOf p) with
      | some e =>
        match e.state with
        | .live => none
        | .copying _ _ c => if c ≤ indexOf p then some (lineOf e.region (indexOf p)) else none
      | none => none

/-- The relation of a physical region to the map, with the region given with it (R23). -/
inductive Relation where
  | unmapped (region : Nat)
  | retired (region : Nat)
  | inService (region : Nat)
  /-- `source`: the region is the source of the COPYING entry, not its spare -/
  | inCopy (region : Nat) (source : Bool)
  | unused
  deriving DecidableEq, Repr

/-- The relation of physical region `q` (R23). -/
def relationOf (V : Nat) (map : List MapEntry) (q : Nat) : Relation :=
  match map.find? (fun e => e.source? = some q) with
  | some e => .inCopy e.region true
  | none =>
    match map.find? (fun e => e.isCopying && V + e.spare = q) with
    | some e => .inCopy e.region false
    | none =>
      if q < V then
        match findEntry map q with
        | none => .unmapped q
        | some e => .retired e.region
      else
        match entryOfSpare map (q - V) with
        | some e => .inService e.region
        | none => .unused

/-- The relation of a physical region in a state (R23). -/
def State.relation (s : State) (q : Nat) : Relation := relationOf s.V s.map q

/-- The region is the source region of the COPYING entry (R92). -/
def State.isCopySource (s : State) (q : Nat) : Bool := s.map.any fun e => e.source? = some q

/-! ### Map changes -/

/-- Insert an entry at the position ascending order of host region gives it (R16). -/
def insertEntry (e : MapEntry) : List MapEntry → List MapEntry
  | [] => [e]
  | x :: xs => if e.region < x.region then e :: x :: xs else x :: insertEntry e xs

/-- The entry a RETIRE job start inserts (R24). -/
def retireEntry (region spare : Nat) (origin : Origin) : MapEntry :=
  { region, spare, state := .copying .retire region 0, poisoned := 0, origin, replacements := 0 }

/-- The conversion of a LIVE entry to COPYING REPLACE with new spare `j` (R24). -/
def convertEntry (V j : Nat) (e : MapEntry) : MapEntry :=
  { e with spare := j, state := .copying .replace (V + e.spare) 0, poisoned := 0 }

/-- The cursor advance of a COPYING entry (R25). -/
def advanceEntry (poison : Bool) (e : MapEntry) : MapEntry :=
  match e.state with
  | .live => e
  | .copying k q c => { e with state := .copying k q (c + 1), poisoned := e.poisoned + poison.toNat }

/-- The completion of a COPYING entry (R26). -/
def completeEntry (poison : Bool) (e : MapEntry) : MapEntry :=
  match e.state with
  | .live => e
  | .copying k _ _ =>
    { e with state := .live, poisoned := e.poisoned + poison.toNat,
             replacements := if k = .replace then min (e.replacements + 1) 255 else e.replacements }

/-- Change the entry of a host region, in place. -/
def updateEntry (map : List MapEntry) (region : Nat) (f : MapEntry → MapEntry) : List MapEntry :=
  map.map fun e => if e.region = region then f e else e

end Sys2Proof.Machine
end

