-- ==== Sys2Proof/Machine/Ops.lean ====
section
/-! DEFINITION. The operations the blocks share: logging an event, counting, sending a response, handing a report, notice or
containment request, changing the bridge state, adding and removing holds, and the ends of patrol visits, host operations,
spare tests and diagnostic operations as far as they issue no further memory operation. -/

namespace Sys2Proof.Machine

/-! ### Hard reset -/

/-- Whether a happening is taken: while RESET_N is low the part takes none, and nothing changes (R185,
notes/assumptions/15.md). -/
def State.unlessHeld (s : State) (o : Host.Outcome State Fault Refusal) : Host.Outcome State Fault Refusal :=
  if s.resetLow then .next s else o

/-! ### Event Unit -/

/-- Append a record, or count it as lost when the queue holds 64 (R146, R147). -/
def EventUnit.append (u : EventUnit) (pass : BitVec 16) (e : Event) : EventUnit :=
  if u.queue.length < 64 then
    { u with queue := u.queue ++ [⟨u.nextSeq, pass, e⟩], nextSeq := u.nextSeq + 1 }
  else { u with lost := satSucc 65535 u.lost }

/-- A block logs an event; ALERT_N is re-evaluated (R146, R147, R150). -/
def State.logEvent (s : State) (e : Event) : State := (s.setEv (s.ev.append s.patrol.pass e)).refreshAlert

/-- Add 1 to a 32-bit counter that saturates (R151). -/
def bump32 (n : Nat) : Nat := satSucc 4294967295 n

/-- Change the counters. -/
def State.count (s : State) (f : Counters → Counters) : State := s.setEv { s.ev with counters := f s.ev.counters }

def Counters.bumpHostReads (k : Counters) : Counters := { k with hostReads := bump32 k.hostReads }
def Counters.bumpHostWrites (k : Counters) : Counters := { k with hostWrites := bump32 k.hostWrites }
def Counters.bumpHostPartials (k : Counters) : Counters := { k with hostPartials := bump32 k.hostPartials }
def Counters.bumpRespCorrected (k : Counters) : Counters := { k with respCorrected := bump32 k.respCorrected }
def Counters.bumpRespPoisoned (k : Counters) : Counters := { k with respPoisoned := bump32 k.respPoisoned }
def Counters.bumpUeFinal (k : Counters) : Counters := { k with ueFinal := bump32 k.ueFinal }
def Counters.bumpTransients (k : Counters) : Counters := { k with transients := bump32 k.transients }
def Counters.bumpRetryReads (k : Counters) : Counters := { k with retryReads := bump32 k.retryReads }
def Counters.bumpDsTimeouts (k : Counters) : Counters := { k with dsTimeouts := bump32 k.dsTimeouts }
def Counters.bumpLateAnswers (k : Counters) : Counters := { k with lateAnswers := bump32 k.lateAnswers }
def Counters.bumpTagClashes (k : Counters) : Counters := { k with tagClashes := bump32 k.tagClashes }
def Counters.bumpDiscarded (k : Counters) : Counters := { k with discarded := bump32 k.discarded }

/-! ### Bridge Control -/

/-- Push a state onto the history, which keeps the newest four (R131). -/
def pushHistory (left : BridgeState) (history : List BridgeState) : List BridgeState := (left :: history).take 4

/-- Change the bridge state: the state left is pushed and STATE_CHANGED is logged (R131). -/
def State.changeBridge (s : State) (entered : BridgeState) : State :=
  (s.setBridge { s.bridge with state := entered, history := pushHistory s.bridge.state s.bridge.history }).logEvent
    (.stateChanged s.bridge.state entered)

/-- The Memory Port hands Bridge Control a containment request (R136, R169). -/
def State.handFromMemory (s : State) (r : ContainRequest) : State :=
  s.setBridge { s.bridge with fromMemory := s.bridge.fromMemory ++ [r] }

/-- The Request Handler hands Bridge Control a containment request (R86, R136). -/
def State.handFromHandler (s : State) (r : ContainRequest) : State :=
  s.setBridge { s.bridge with fromHandler := s.bridge.fromHandler ++ [r] }

/-! ### Health Tracker -/

/-- Hand a report or notice to the Health Tracker (R101, R108 to R110). -/
def State.hand (s : State) (x : Handed) : State := s.setInbox (s.inbox ++ [x])

/-! ### Spare Pool and Retirement Queue -/

/-- The record of a spare index below S (R33). -/
def State.spare? (s : State) (i : Nat) : Option SpareState := if i < s.S then s.spares[i]? else none

/-- Set the record of a spare. -/
def State.setSpare (s : State) (i : Nat) (x : SpareState) : State := s.setSpares (s.spares.set i x)

/-- The FREE spare of lowest index (R34). -/
def State.freeSpare? (s : State) : Option Nat := s.spares.findIdx? (· = .free)

/-- The result of a submission (R39). -/
inductive Submission where
  | duplicate | full | accepted
  deriving DecidableEq, Repr

/-- The result of submitting a request for a region (R39). -/
def State.submission (s : State) (region : Nat) : Submission :=
  if s.queue.any (fun q => q.region = region) || s.map.any (fun e => e.isCopying && e.region = region) then .duplicate
  else if 8 ≤ s.queue.length then .full
  else .accepted

/-- The effect of submitting a request (R39). -/
def State.submit (s : State) (r : Request) : State :=
  match s.submission r.region with
  | .accepted => (s.setQueue (s.queue ++ [r])).logEvent (.retireQueued r.region r.kind r.origin)
  | _ => s

/-! ### Line Order Unit -/

/-- The holds on a key, in arrival order. -/
def State.holdsOn (s : State) (k : Key) : List Hold := s.order.entries.filter fun e => e.key = k

/-- The hold of an owner. -/
def State.holdOf (s : State) (o : Owner) : Option Hold := s.order.entries.find? fun e => e.owner = o

/-- Create an entry with the next arrival number (R61, R65). It is created WAITING; `State.settle` makes it ACTIVE in the
same happening where R65 does. -/
def State.addHold (s : State) (k : Key) (o : Owner) : State :=
  s.setOrder
    { s.order with
      entries := s.order.entries ++ [⟨k, o, false, s.order.nextArrival, false⟩]
      nextArrival := s.order.nextArrival + 1 }

/-- Remove the entry of an owner (R68, R70). -/
def State.removeHold (s : State) (o : Owner) : State :=
  s.setOrder { s.order with entries := s.order.entries.filter fun e => e.owner ≠ o }

/-- Make the oldest entry on a key ACTIVE. -/
def activateOldest (k : Key) : List Hold → List Hold
  | [] => []
  | e :: es => if e.key = k then { e with active := true } :: es else e :: activateOldest k es

/-- The oldest entry on a key becomes ACTIVE (R65, R66, R68). -/
def State.activate (s : State) (k : Key) : State :=
  s.setOrder { s.order with entries := activateOldest k s.order.entries }

/-! ### Request Handler -/

/-- The operation record of a tag (R78). -/
def State.opOf (s : State) (t : Fin 32) : Option HostOp := s.ops.find? fun o => o.tag = t

/-- Replace the operation record of a tag. -/
def State.putOp (s : State) (op : HostOp) : State := s.setOps (s.ops.map fun o => if o.tag = op.tag then op else o)

/-- Send a response message, with the counters of R93 (R160). -/
def State.send (s : State) (r : Response) : State :=
  let t := s.setHostOut (s.hostOut ++ [r])
  match r.status with
  | .corrected => t.count Counters.bumpRespCorrected
  | .poisoned => t.count Counters.bumpRespPoisoned
  | _ => t

/-- The data field of the response to a request: an RDR carries data, a WRR none (R155). -/
def HostReq.responseData : HostReq → Data → Option Data
  | .rd, d => some d
  | .wr _, _ => none
  | .wrp _ _, _ => none

/-- An operation sends its response; an orphan sends none (R80, R97). -/
def State.respond (s : State) (op : HostOp) (status : RespStatus) (d : Data) : State :=
  if op.orphan then s else s.send ⟨op.tag, status, op.req.responseData d⟩

/-- The last orphan has been released: the port returns to UP and logs PORT_QUIESCED (R73, R162). -/
def State.portQuiesced (s : State) : State :=
  (s.setLink { s.link with quiesce := false }).logEvent (.portQuiesced s.order.finished)

/-- An orphan has been released (R73, R97, R162). The operation's own events stand before PORT_QUIESCED, and PORT_QUIESCED before
what the release activates (R146, notes/assumptions/11.md). -/
def State.orphanFinished (s : State) : State :=
  let t := s.setOrder { s.order with finished := s.order.finished + 1 }
  if t.ops.any (·.orphan) then t else t.portQuiesced

/-- Delete the record of a host operation whose hold is released or withdrawn: its hold leaves the table, and its tag is
FREE, or it is counted as a finished orphan (R80, R97, R156). -/
def State.endHostOp (s : State) (op : HostOp) : State :=
  let t := (s.removeHold (.host op.tag)).setOps (s.ops.filter fun o => o.tag ≠ op.tag)
  if op.orphan then t.orphanFinished
  else t.setLink { t.link with busy := t.link.busy.filter (· ≠ op.tag) }

/-- Report an error of a host operation, unless its region is the source of the COPYING entry (R92). -/
def State.hostReport (s : State) (k : ReportKind) (p : Nat) : State :=
  if s.isCopySource (regionOf p) then s else s.hand (.report ⟨k, .host, p⟩)

/-- A host operation's retry is CLEAN or CORRECTED: a transient (R84). -/
def State.hostTransient (s : State) (p reads : Nat) : State :=
  ((s.hostReport .transient p).logEvent (.transient p reads .host)).count Counters.bumpTransients

/-! ### Patrol Scrubber -/

/-- How a visit ended (R124). -/
inductive VisitEnd where
  | skipped
  | checked
  | corrected
  | poisoned
  | uncorrectable
  /-- a TIMEOUT; the tally is that of the outcome the timed-out write followed -/
  | timeout (tally : Tally)
  deriving DecidableEq, Repr

/-- The counts a visit adds (R124). -/
def PassCounts.add (k : PassCounts) : VisitEnd → PassCounts
  | .skipped => { k with skipped := k.skipped + 1 }
  | .checked => { k with checked := k.checked + 1 }
  | .corrected => { k with checked := k.checked + 1, corrected := k.corrected + 1 }
  | .poisoned => { k with checked := k.checked + 1, poisoned := k.poisoned + 1 }
  | .uncorrectable => { k with checked := k.checked + 1, uncorrectable := k.uncorrectable + 1 }
  | .timeout .none => { k with checked := k.checked + 1, timeouts := k.timeouts + 1 }
  | .timeout .corrected => { k with checked := k.checked + 1, timeouts := k.timeouts + 1, corrected := k.corrected + 1 }
  | .timeout .uncorrectable =>
    { k with checked := k.checked + 1, timeouts := k.timeouts + 1, uncorrectable := k.uncorrectable + 1 }

/-- How a visit whose write was acknowledged ended (R124). -/
def Tally.visitEnd : Tally → VisitEnd
  | .none => .checked
  | .corrected => .corrected
  | .uncorrectable => .uncorrectable

/-- Offer the figures of a completed pass to the Patrol Summary (R126). -/
def Patrol.offer (p : Patrol) (figures : Summary) : Patrol :=
  if p.summaryValid then { p with missed := satSucc 255 p.missed }
  else { p with summary := figures, summaryValid := true }

/-- The pass end, in the order of R125. -/
def State.passEnd (s : State) : State :=
  let n := s.patrol.pass
  let t := s.setPatrol { s.patrol with pass := n + 1, position := 0 }
  let t := t.logEvent (.passDone n)
  let t := t.hand (.passEnd n)
  let p := t.patrol.offer ⟨n, t.patrol.counts⟩
  t.setPatrol { p with counts := PassCounts.zero }

/-- The end of a visit of the position line: counts, position and, past the last line, the pass end (R124). The next visit
is not started here. -/
def State.closeVisit (s : State) (e : VisitEnd) : State :=
  let t := s.setPatrol
    { s.patrol with visit := none, counts := s.patrol.counts.add e, position := s.patrol.position + 1 }
  if t.patrol.position = t.V * 64 then t.passEnd else t

/-- A visit's retry is CLEAN or CORRECTED: a transient (R122). -/
def State.patrolTransient (s : State) (p reads : Nat) : State :=
  (s.hand (.report ⟨.transient, .patrol, p⟩)).logEvent (.transient p reads .patrol)

/-! ### Spare tests and diagnostics -/

/-- A spare test ends: the spare's state, the last-test record, SPARE_TESTED, and the engine is IDLE (R57). The hold has
been released. DEDUCED, unsafe: R27 says that the old spare of a REPLACE job stays out of host service until hard reset; R33,
R53 and R57 let a test that ends GOOD return any BAD spare to FREE, from where a later job may take it. The model follows R33,
R53 and R57 (notes/assumptions/27.md). -/
def State.finishTest (s : State) (t : TestJob) (r : TestResult) : State :=
  let after := match r with
    | .good => SpareState.free
    | .bad => .bad
    | .timeout => t.before
    | .abandoned => t.before
  (((s.setSpare t.index after).setLastTest (some (t.index, r))).logEvent (.spareTested t.index r)).setEngine .idle

/-- How a memory operation ended for its owner (R166, R167): a READ_DATA with its symbols and their classification, a
WRITE_ACK, or TIMEOUT. -/
inductive MemEnd where
  | read (w : Codeword) (r : ReadResult)
  | ack
  | timeout
  deriving DecidableEq, Repr

/-- What FILL receives when a fetch ends (R182). -/
def fetchBuffer (p : Nat) : MemEnd → Buffer
  | .read w r => ⟨w, p, r.classification, true⟩
  | .ack => ⟨Codeword.zero, p, .timeout, true⟩
  | .timeout => ⟨Codeword.zero, p, .timeout, true⟩

/-- A diagnostic operation ends: a fetch fills FILL, a store writes no buffer, busy clears (R182, R183). The hold is released
by the caller. -/
def State.finishDiag (s : State) (d : DiagOp) (e : MemEnd) : State :=
  match d.kind with
  | .fetch => s.setMgmt { s.mgmt with fill := fetchBuffer d.line e, diag := none }
  | .storeCode => s.setMgmt { s.mgmt with diag := none }
  | .storePoison => s.setMgmt { s.mgmt with diag := none }

/-! ### Ends of memory operations in CONTAIN: nothing further is issued, and no hold becomes active (R74) -/

/-- A host operation whose memory operation ends in CONTAIN: reports, events, counters and response (R96). -/
def State.hostContainReply (s : State) (op : HostOp) (e : MemEnd) : State :=
  let p := op.phys.getD 0
  match op.phase with
  | .writeback => s
  | .waitHold => s
  | .poisonWrite => s.respond op .failed Data.zero
  | .dataWrite => s.respond op .failed Data.zero
  | .read =>
    match e with
    | .read _ (.clean d) => if op.req = .rd then s.respond op .ok d else s.respond op .failed Data.zero
    | .read _ (.corrected k w) =>
      let t := s.hostReport (.corrected k) p
      if op.req = .rd then t.respond op .corrected w.data else t.respond op .failed Data.zero
    | .read _ .poison => s.respond op .poisoned Data.zero
    | .read _ .uncorrectable => s.respond op .failed Data.zero
    | .ack => s.respond op .failed Data.zero
    | .timeout => s.respond op .failed Data.zero
  | .retry =>
    match e with
    | .read _ (.clean d) =>
      let t := s.hostTransient p op.attempts
      if op.req = .rd then t.respond op .ok d else t.respond op .failed Data.zero
    | .read _ (.corrected _ w) =>
      let t := s.hostTransient p op.attempts
      if op.req = .rd then t.respond op .corrected w.data else t.respond op .failed Data.zero
    | .read _ .poison => s.respond op .poisoned Data.zero
    | .read _ .uncorrectable => s.respond op .failed Data.zero
    | .ack => s.respond op .failed Data.zero
    | .timeout => s.respond op .failed Data.zero

/-- How a visit whose memory operation ends in CONTAIN is counted (R128). -/
def Visit.containEnd (v : Visit) : MemEnd → VisitEnd
  | .read _ (.clean _) => .checked
  | .read _ (.corrected _ _) => .corrected
  | .read _ .poison => .poisoned
  | .read _ .uncorrectable => .checked
  | .ack => v.tally.visitEnd
  | .timeout => .timeout v.tally

/-- The reports and events of a visit whose memory operation ends in CONTAIN (R128). -/
def State.patrolContainReport (s : State) (v : Visit) (e : MemEnd) : State :=
  let p := v.phys.getD 0
  match v.phase, e with
  | .read, .read _ (.corrected k _) => s.hand (.report ⟨.corrected k, .patrol, p⟩)
  | .retry, .read _ (.clean _) => s.patrolTransient p v.attempts
  | .retry, .read _ (.corrected _ _) => s.patrolTransient p v.attempts
  | _, _ => s

/-- The end of a visit in CONTAIN; the running flag is cleared at that end (R128). -/
def State.patrolContainEnd (s : State) (v : Visit) (e : MemEnd) : State :=
  let t := ((s.patrolContainReport v e).removeHold .patrol).closeVisit (v.containEnd e)
  t.setPatrol { t.patrol with running := false }

/-- The end of the engine's memory operation in CONTAIN: the result is discarded and the hold released; a spare test ends
ABANDONED (R54, R58). -/
def State.engineContainEnd (s : State) : State :=
  match s.engine with
  | .testing t => (s.removeHold .engine).finishTest t .abandoned
  | _ => s.removeHold .engine

/-- The end of a diagnostic operation without any activation (R184). -/
def State.diagContainEnd (s : State) (e : MemEnd) : State :=
  match s.mgmt.diag with
  | some d => (s.removeHold .diag).finishDiag d e
  | none => s

/-- The end of an owner's memory operation in CONTAIN (R54, R58, R96, R128, R134, R184). -/
def State.endInContain (s : State) (o : Owner) (e : MemEnd) : State :=
  match o with
  | .host t =>
    match s.opOf t with
    | some op => (s.hostContainReply op e).endHostOp op
    | none => s
  | .patrol =>
    match s.patrol.visit with
    | some v => s.patrolContainEnd v e
    | none => s
  | .engine => s.engineContainEnd
  | .diag => s.diagContainEnd e
  | .format => s

/-! ### Issue -/

/-- A tag is neither active nor quarantined (R165). -/
def MemPort.tagFree (m : MemPort) (t : Fin 64) : Bool :=
  !(m.active.any fun a => a.tag = t) && !m.quarantine.contains t

/-- The lowest tag that is neither active nor quarantined (R165). -/
def MemPort.lowestTag (m : MemPort) : Option (Fin 64) := (List.finRange 64).find? m.tagFree

/-- Issue an operation under a tag (R165). -/
def State.sendOp (s : State) (t : Fin 64) (r : IssueReq) : State :=
  (s.setMem
    { s.mem with
      active := s.mem.active ++ [⟨t, r.kind, r.line, r.owner, s.mem.generation, s.mgmt.params.dsTimeoutUs⟩] }).setMemOut
    (s.memOut ++ [⟨s.mem.generation, t, r.line, r.kind⟩])

/-- Append an issue request to the deferred list (R170). -/
def State.defer (s : State) (r : IssueReq) : State := s.setMem { s.mem with deferred := s.mem.deferred ++ [r] }

/-- An owner asks for a memory operation (R165, R170). In CONTAIN the request ends at once as TIMEOUT; with 28 tags or more in
quarantine it is deferred. A free tag always exists otherwise (R165); in a state where none did, the request would be
deferred (notes/assumptions/6.md). -/
def State.issue (s : State) (r : IssueReq) : State :=
  if s.bridge.state = .contain then s.endInContain r.owner .timeout
  else if 28 ≤ s.mem.quarantine.length then s.defer r
  else match s.mem.lowestTag with
    | some t => s.sendOp t r
    | none => s.defer r

/-! ### Activation -/

/-- The physical lines a hold's owner would touch under a HOST key (R67, R72): a copy step its spare line and its source line,
every other owner the line R19 gives now. DEDUCED, unsafe: R67 names the spare line alone for a copy step; the source line is
among them so that no two awaiting operations address one physical line, as R72 and R165 state (notes/assumptions/34.md). -/
def State.touches (s : State) (e : Hold) : List Nat :=
  match e.key with
  | .phys _ => []
  | .host h =>
    match e.owner, s.engine with
    | .engine, .copying j => [spareLine s.V j.spare j.cursor, lineOf j.source j.cursor]
    | _, _ => [translate s.V s.map h]

/-- The hold is held back by R67: the table holds an entry on PHYS(p) for a line p its owner would touch. -/
def State.heldBack (s : State) (e : Hold) : Bool :=
  (s.touches e).any fun p => s.order.entries.any fun x => x.key = .phys p

/-- The owner whose hold on the key becomes ACTIVE: the oldest entry, when no entry on the key is active and it is not held
back (R65, R67, R68). -/
def State.nextOwner (s : State) (k : Key) : Option Owner :=
  if (s.holdsOn k).any (·.active) then none
  else match s.holdsOn k with
    | [] => none
    | e :: _ => if s.heldBack e then none else some e.owner

/-- A visit of the position line starts: the timer restarts, and the visit is skipped or requests its hold, whose key is
then to be settled (R115, R119). -/
def State.startVisit (s : State) : State × List Key :=
  let t := s.setPatrol { s.patrol with timer := .running s.mgmt.params.patrolIntervalUs }
  let h := t.patrol.position
  if regionUnderCopy t.map (regionOf h) then (t.closeVisit .skipped, [])
  else ((t.setPatrol { t.patrol with visit := some ⟨h, none, .waitHold, 0, .none⟩ }).addHold (.host h) .patrol, [.host h])

/-- After a visit has ended: a visit that is due starts at once (R124). -/
def State.startDueVisit (s : State) : State × List Key :=
  if s.patrol.due && s.patrol.running then (s.setPatrol { s.patrol with due := false }).startVisit else (s, [])

/-- The first memory operation of a host operation, or the end of a WRP that selects no byte (R81, R88, R89, R90). -/
def State.beginHost (s : State) (op : HostOp) : State :=
  let p := translate s.V s.map op.line
  let write (d : Data) : State :=
    (s.putOp { op with phys := some p, phase := .dataWrite }).issue ⟨.host op.tag, .mwr (encode d), p⟩
  let read : State :=
    (s.putOp { op with phys := some p, phase := .read, attempts := 1 }).issue ⟨.host op.tag, .mrd, p⟩
  match op.req with
  | .rd => read
  | .wr d => write d
  | .wrp d m =>
    if m = BitVec.allOnes 64 then write d
    else if m = 0 then (s.respond op .ok Data.zero).endHostOp op
    else read

/-- A visit's hold is active: skipped if its region is under copy by now, else its first read (R120). -/
def State.beginVisit (s : State) (v : Visit) : State × List Key :=
  if regionUnderCopy s.map (regionOf v.line) then ((s.removeHold .patrol).closeVisit .skipped).startDueVisit
  else
    let p := translate s.V s.map v.line
    ((s.setPatrol { s.patrol with visit := some { v with phys := some p, phase := .read, attempts := 1 } }).issue
      ⟨.patrol, .mrd, p⟩, [])

/-- The physical line of a spare test's line (R56). -/
def State.testLine (s : State) (t : TestJob) : Nat := spareLine s.V t.index t.line

/-- A copy step reads its source line (R48, R51). -/
def State.readSource (s : State) (j : CopyJob) : State :=
  (s.setEngine (.copying { j with phase := .read, attempts := 1 })).issue ⟨.engine, .mrd, lineOf j.source j.cursor⟩

/-- A spare test writes its line's pattern (R56). -/
def State.writePattern (s : State) (t : TestJob) : State :=
  (s.setEngine (.testing { t with phase := .write })).issue ⟨.engine, .mwr (encode (patternData t.line)), s.testLine t⟩

/-- The engine's hold is active (R48, R56). -/
def State.beginEngine (s : State) : State :=
  match s.engine with
  | .copying j => s.readSource j
  | .testing t => s.writePattern t
  | _ => s

/-- The codeword a diagnostic operation issues, formed from VIEW's data symbols for a store (R182, R183). -/
def State.diagKindOp (s : State) : DiagKind → MemKind
  | .fetch => .mrd
  | .storeCode => .mwr (encode s.mgmt.view.symbols.data)
  | .storePoison => .mwr (poisonMark s.mgmt.view.symbols.data)

/-- The diagnostic operation's hold is active (R182, R183). -/
def State.beginDiag (s : State) : State :=
  match s.mgmt.diag with
  | some d => s.issue ⟨.diag, s.diagKindOp d.kind, d.line⟩
  | none => s

/-- An owner's hold becomes ACTIVE: what it does in that happening, and the keys on which a hold was requested (R66). -/
def State.begin (s : State) (o : Owner) : State × List Key :=
  match o with
  | .host t =>
    match s.opOf t with
    | some op => (s.beginHost op, [])
    | none => (s, [])
  | .patrol =>
    match s.patrol.visit with
    | some v => s.beginVisit v
    | none => (s, [])
  | .engine => (s.beginEngine, [])
  | .diag => (s.beginDiag, [])
  | .format => (s, [])

/-- Make active, key by key, the holds that may become ACTIVE, each with what its owner does then (R65, R66, R68). An owner
that releases its hold at activation makes room for the next holder of its key. -/
def State.settle : Nat → List Key → State → State
  | 0, _, s => s
  | _ + 1, [], s => s
  | n + 1, k :: ks, s =>
    match s.nextOwner k with
    | none => State.settle n ks s
    | some o =>
      let r := (s.activate k).begin o
      State.settle n (k :: ks ++ r.2) r.1

/-- Settle keys with enough steps for every entry of the table, every key, and one visit that starts in between. -/
def State.settleKeys (s : State) (ks : List Key) : State :=
  State.settle (2 * s.order.entries.length + ks.length + 4) ks s

/-- A hold is requested, and becomes ACTIVE at once where R65 makes it so. -/
def State.requestHold (s : State) (k : Key) (o : Owner) : State := (s.addHold k o).settleKeys [k]

/-- The keys on which the removal of an entry on a key can make a hold ACTIVE: the key itself, and for PHYS(p) the HOST keys of
the holds held back on p (R67, R68, R70). -/
def State.keysFreed (s : State) : Key → List Key
  | .host h => [.host h]
  | .phys p => .phys p :: (s.order.entries.filter fun e => !e.active && (s.touches e).contains p).map (·.key)

/-- In FORMAT, the notice that the hold table has become empty: the format cursor issues its first write (R75, R133). -/
def State.formatNotice (s : State) : State :=
  match s.bridge.cursor with
  | some c =>
    if s.bridge.state = .format && c.draining && s.order.entries.isEmpty then
      (s.setBridge { s.bridge with cursor := some { c with draining := false } }).issue
        ⟨.format, .mwr (encode Data.zero), c.line⟩
    else s
  | none => s

/-- After the entry `freed` has left the table: the activation this causes, and the notice to the format cursor (R68, R75). An
activated visit can be skipped and end the pass; where its PASS_DONE stands beside another block's event of the same happening is
the model's choice (R146, notes/assumptions/11.md). -/
def State.afterRelease (s : State) (freed : Option Hold) : State :=
  match freed with
  | some e => (s.settleKeys (s.keysFreed e.key)).formatNotice
  | none => s.formatNotice

/-- An owner other than a host operation releases its hold (R68). -/
def State.release (s : State) (o : Owner) : State := (s.removeHold o).afterRelease (s.holdOf o)

/-- A host operation releases its hold and its record is deleted (R68, R80). -/
def State.releaseHostOp (s : State) (op : HostOp) : State :=
  (s.endHostOp op).afterRelease (s.holdOf (.host op.tag))

/-- A visit that has released its hold ends, and a visit that is due starts, after what the release has activated (R124;
notes/assumptions/36.md). -/
def State.endVisit (s : State) (e : VisitEnd) : State :=
  let r := (s.closeVisit e).startDueVisit
  r.1.settleKeys r.2

/-! ### Free order -/

/-- Insert by a key. -/
def insertBy {α : Type} (key : α → Nat) (x : α) : List α → List α
  | [] => [x]
  | y :: ys => if key x < key y then x :: y :: ys else y :: insertBy key x ys

/-- Arrange things by a key. With a free key every order can come about. -/
def arrange {α : Type} (key : α → Nat) : List α → List α
  | [] => []
  | x :: xs => insertBy key x (arrange key xs)

end Sys2Proof.Machine
end

