-- ==== Sys2Proof/Machine/HostRequests.lean ====
section
/-! DEFINITION. The Request Handler's flows (spec file 05) and the host link's commands (spec file 10): RD, WR, WRP, MALFORMED
and LINK_RESET. -/

namespace Sys2Proof.Machine

/-! ### What a host operation does when its memory operation ends (not in CONTAIN) -/

/-- The response and the release are one happening (R68). -/
def State.respondAndRelease (s : State) (op : HostOp) (status : RespStatus) (d : Data) : State :=
  (s.respond op status d).releaseHostOp op

/-- The operation issues an MWR and waits for it in a phase. -/
def State.hostWrite (s : State) (op : HostOp) (phase : HostPhase) (w : Codeword) : State :=
  (s.putOp { op with phase := phase }).issue ⟨.host op.tag, .mwr w, op.phys.getD 0⟩

/-- A partial write merges into the data read and writes the merged line (R90). A full write never reads; its data would be
written as it is. -/
def State.hostMerge (s : State) (op : HostOp) (old : Data) : State :=
  match op.req with
  | .wrp d m => s.hostWrite op .dataWrite (encode (mergeData m d old))
  | .wr d => s.hostWrite op .dataWrite (encode d)
  | .rd => s

/-- A CORRECTED read of an RD: the response, then the demand write-back (R82, R84). -/
def State.hostWriteBack (s : State) (op : HostOp) (w : Codeword) : State :=
  (s.respond op .corrected w.data).hostWrite { op with responseSent := !op.orphan } .writeback w

/-- A final UNCORRECTABLE outcome (R85, R86), by UE_POLICY. -/
def State.hostFinal (s : State) (op : HostOp) : State :=
  let p := op.phys.getD 0
  match s.mgmt.params.uePolicy with
  | .poison =>
    (((s.hostWrite op .poisonWrite (poisonMark Data.zero)).hostReport .uncorrectable p).logEvent
      (.uncorrectable p (some op.line) .hostPoisoned)).count Counters.bumpUeFinal
  | .contain =>
    ((((((s.respond op .failed Data.zero).hostReport .uncorrectable p).logEvent
      (.uncorrectable p (some op.line) .hostContained)).count Counters.bumpUeFinal).releaseHostOp op)).handFromHandler
      ⟨.uePolicy, some p⟩

/-- An UNCORRECTABLE read: a retry while the retries made are below READ_RETRIES, else final (R83). DESIGN CHOICE, unsafe: R83
counts the retry at the outcome and R93 at each retry MRD issued; where the request is only put on the deferred list (R170), read
attempts and RETRY_READS rise here all the same, at the outcome (notes/assumptions/37.md). -/
def State.hostUncorrectable (s : State) (op : HostOp) : State :=
  if op.attempts - 1 < s.mgmt.params.readRetries then
    ((s.putOp { op with phase := .retry, attempts := op.attempts + 1 }).count Counters.bumpRetryReads).issue
      ⟨.host op.tag, .mrd, op.phys.getD 0⟩
  else s.hostFinal op

/-- A read of an RD or WRP is classified (R81 to R86, R90, R91). -/
def State.hostRead (s : State) (op : HostOp) (r : ReadResult) : State :=
  let p := op.phys.getD 0
  let transient := op.phase = .retry
  match r with
  | .clean d =>
    let t := if transient then s.hostTransient p op.attempts else s
    if op.req = .rd then t.respondAndRelease op .ok d else t.hostMerge op d
  | .corrected k w =>
    let t := if transient then s.hostTransient p op.attempts else s.hostReport (.corrected k) p
    if op.req = .rd then t.hostWriteBack op w else t.hostMerge op w.data
  | .poison => s.respondAndRelease op .poisoned Data.zero
  | .uncorrectable => s.hostUncorrectable op

/-- A write of a host operation is acknowledged (R82, R85, R88, R90). -/
def State.hostAck (s : State) (op : HostOp) : State :=
  match op.phase with
  | .poisonWrite => s.respondAndRelease op .poisoned Data.zero
  | .dataWrite => s.respondAndRelease op .ok Data.zero
  | .writeback => s.releaseHostOp op
  | .waitHold => s
  | .read => s
  | .retry => s

/-- A memory operation of a host operation times out (R82, R85, R87, R88, R90). -/
def State.hostTimeout (s : State) (op : HostOp) : State :=
  match op.phase with
  | .read => s.respondAndRelease op .failed Data.zero
  | .retry => s.respondAndRelease op .failed Data.zero
  | .dataWrite => s.respondAndRelease op .failed Data.zero
  | .poisonWrite => s.respondAndRelease op .poisoned Data.zero
  | .writeback => s.releaseHostOp op
  | .waitHold => s

/-- A host operation's memory operation ends, not in CONTAIN. -/
def State.hostEnd (s : State) (t : Fin 32) (e : MemEnd) : State :=
  match s.opOf t with
  | none => s
  | some op =>
    match e with
    | .read _ r => s.hostRead op r
    | .ack => s.hostAck op
    | .timeout => s.hostTimeout op

/-! ### Acceptance -/

/-- The host line an address field carries: bits 0..27 (R187). -/
def hostLine (field : BitVec 32) : Nat := (field.setWidth 28).toNat

/-- The counter a request adds to, by its kind as received (R79). -/
def HostReq.counter : HostReq → Counters → Counters
  | .rd => Counters.bumpHostReads
  | .wr _ => Counters.bumpHostWrites
  | .wrp _ _ => Counters.bumpHostPartials

/-- A request answered at acceptance: no hold, no record, the tag stays FREE (R157 rows 4 to 6). -/
def State.answerNow (s : State) (tag : Fin 32) (req : HostReq) (status : RespStatus) : State :=
  (s.count req.counter).send ⟨tag, status, req.responseData Data.zero⟩

/-- A request handed to the Request Handler: its tag is BUSY, its record waits for its hold, the hold is requested
(R79, R157 row 7). -/
def State.handOn (s : State) (tag : Fin 32) (req : HostReq) (h : Nat) : State :=
  let t := (s.count req.counter).setLink { s.link with busy := s.link.busy ++ [tag] }
  let op : HostOp :=
    { tag, req, line := h, phys := none, phase := .waitHold, attempts := 0, responseSent := false, orphan := false }
  (t.setOps (t.ops ++ [op])).requestHold (.host h) (.host tag)

/-- Acceptance of an RD, WR or WRP, by the checks of R157 in order (R159). -/
def State.accept (s : State) (tag : Fin 32) (field : BitVec 32) (req : HostReq) : State :=
  let h := hostLine field
  if s.link.quiesce then s.count Counters.bumpDiscarded
  else if s.tagBusy tag then (s.logEvent (.tagClash tag)).count Counters.bumpTagClashes
  else if s.bridge.state = .contain then s.answerNow tag req .failed
  else if s.bridge.state = .standby || s.bridge.state = .format then s.answerNow tag req .notReady
  else if s.V * 64 ≤ h then s.answerNow tag req .range
  else s.handOn tag req h

/-- RD (R81, R157). -/
def execRd (tag : Fin 32) (line : BitVec 32) (s : State) : Host.Outcome State Fault Refusal := s.unlessHeld <|
  .next (s.accept tag line .rd)

/-- WR (R88, R157). -/
def execWr (tag : Fin 32) (line : BitVec 32) (data : Data) (s : State) : Host.Outcome State Fault Refusal := s.unlessHeld <|
  .next (s.accept tag line (.wr data))

/-- WRP (R89, R157). -/
def execWrp (tag : Fin 32) (line : BitVec 32) (data : Data) (mask : BitVec 64) (s : State) :
    Host.Outcome State Fault Refusal := s.unlessHeld <|
  .next (s.accept tag line (.wrp data mask))

/-- The kind byte names RD, WR or WRP (R187). -/
def isRequestKind (kind : Byte) : Bool := kind = 0x01 || kind = 0x02 || kind = 0x03

/-- MALFORMED: discarded whole (R157 rows 1 and 2, R158). A kind byte that names RD, WR or WRP is no malformed message: such a
term is ill-formed, and nothing happens (notes/assumptions/7.md). -/
def execMalformed (kind : Byte) (s : State) : Host.Outcome State Fault Refusal := s.unlessHeld <|
  if isRequestKind kind then .next s
  else if s.link.quiesce then .next (s.count Counters.bumpDiscarded)
  else .next ((s.logEvent (.malformed kind)).count Counters.bumpDiscarded)

/-! ### Link reset -/

/-- The entry is a WAITING host entry, which a link reset withdraws (R73). -/
def Hold.droppedByLinkReset (e : Hold) : Bool :=
  match e.owner with
  | .host _ => !e.active
  | _ => false

/-- An entry as a link reset leaves it: the orphan flag is set on every host entry (R73). -/
def Hold.orphaned (e : Hold) : Hold :=
  match e.owner with
  | .host _ => { e with orphan := true }
  | _ => e

/-- A link reset taken while the port is UP (R73, R97, R161): the port enters QUIESCE, waiting operations are dropped, active
ones become orphans, every tag is FREE; with no orphan the port returns to UP at once. -/
def State.linkReset (s : State) : State :=
  let dropped := s.order.entries.filter Hold.droppedByLinkReset
  let t := s.setLink { quiesce := true, busy := [] }
  let t := t.setOrder
    { t.order with
      entries := (t.order.entries.filter fun e => !e.droppedByLinkReset).map Hold.orphaned
      finished := 0 }
  let t := t.setOps ((t.ops.filter fun o => o.phase ≠ .waitHold).map fun o => { o with orphan := true })
  let t := if t.ops.isEmpty then t.portQuiesced else t
  t.settleKeys (dropped.map (·.key))

/-- A pulse is taken: at 100 ns or more always, below 10 ns never, in between by a free value (R185). -/
def pulseTaken (n : Nat) (pulseNs : Nat) : Bool :=
  if 100 ≤ pulseNs then true else if pulseNs < 10 then false else Config.shortPulseTaken n

/-- LINK_RESET: one pulse on LINK_RESET_N, taken when the line returns high (R161, R185). In QUIESCE it changes nothing. -/
def execLinkReset (pulseNs : Nat) (s : State) : Host.Outcome State Fault Refusal := s.unlessHeld <|
  let t := if 10 ≤ pulseNs && pulseNs < 100 then s.setFree (s.free + 1) else s
  if pulseTaken s.free pulseNs && !s.link.quiesce then .next t.linkReset else .next t

end Sys2Proof.Machine
end

