-- ==== Sys2Proof/Machine/Operands.lean ====
section
/-! DEFINITION. The bytes of the management bus and the host link (spec file 12, R175, R186 to R190): field encodings, coded
values, the event values, the reply frame and the response message. -/

namespace Sys2Proof.Machine

/-! ### Fields (R186) -/

/-- A 1-byte field. -/
def byte (n : Nat) : Byte := BitVec.ofNat 8 n

/-- A field of `k` bytes, least significant byte first. -/
def le (k n : Nat) : List Byte := (List.range k).map fun i => BitVec.ofNat 8 (n >>> (8 * i))

/-- A field of `k` bytes that is absent: every byte FFh. -/
def absent (k : Nat) : List Byte := List.replicate k 0xFF

/-- A field of `k` bytes that may be absent. -/
def leOpt (k : Nat) : Option Nat → List Byte
  | some n => le k n
  | none => absent k

/-- A flag: 00h clear, 01h set. -/
def flagByte (b : Bool) : Byte := if b then 1 else 0

def BridgeState.code : BridgeState → Byte
  | .standby => 0 | .format => 1 | .online => 2 | .degraded => 3 | .contain => 4

def EngineState.code : EngineState → Byte
  | .idle => 0 | .copying _ => 1 | .suspended _ => 2 | .testing _ => 3 | .halted _ => 4

def Phase.code : Phase → Byte
  | .none => 0 | .waitHold => 1 | .read => 2 | .retry => 3 | .write => 4

def JobKind.code : JobKind → Byte
  | .retire => 0 | .replace => 1

def Origin.code : Origin → Byte
  | .health => 0 | .management => 1 | .loaded => 2

def SpareState.code : SpareState → Byte
  | .free => 0 | .testing => 1 | .inUse => 2 | .bad => 3

def SuspectStatus.code : SuspectStatus → Byte
  | .watch => 0 | .requested => 1 | .stranded => 2 | .notified => 3

def Classification.code : Classification → Byte
  | .clean => 0 | .corrected => 1 | .poison => 2 | .uncorrectable => 3 | .timeout => 4

def Reporter.code : Reporter → Byte
  | .host => 0 | .patrol => 1

def OpName.code : OpName → Byte
  | .mrd => 0 | .mwr => 1

def OwnerName.code : OwnerName → Byte
  | .host => 0 | .patrol => 1 | .engine => 2 | .diag => 3 | .format => 4

def TestResult.code : TestResult → Byte
  | .good => 0 | .bad => 1 | .timeout => 2 | .abandoned => 3

def Cause.code : Cause → Byte
  | .dsFaultLimit => 0 | .dsStuck => 1 | .uePolicy => 2 | .forced => 3

/-- The status codes of R175. -/
def Status.code : Status → Byte
  | .done => 0x00 | .accepted => 0x01 | .busy => 0x02 | .badState => 0x03 | .badParam => 0x04 | .range => 0x05
  | .duplicate => 0x06 | .full => 0x07 | .already => 0x08 | .notFound => 0x09 | .empty => 0x0A | .unknown => 0x0B
  | .badFrame => 0x0C

/-- The response statuses of R187. -/
def RespStatus.code : RespStatus → Byte
  | .ok => 0 | .corrected => 1 | .poisoned => 2 | .range => 3 | .notReady => 4 | .failed => 5

/-! ### Event records (R145, R186, R189) -/

def Event.code : Event → Byte
  | .corrected _ _ _ => 0x01 | .transient _ _ _ => 0x02 | .uncorrectable _ _ _ => 0x03 | .suspectThreshold _ _ => 0x04
  | .suspectEvicted _ _ => 0x05 | .retireQueued _ _ _ => 0x06 | .retireRefused _ => 0x07 | .jobStarted _ _ _ => 0x08
  | .jobDone _ _ _ _ => 0x09 | .noSpare _ _ => 0x0A | .copyStalled _ _ => 0x0B | .spareTested _ _ => 0x0C
  | .dsTimeout _ _ _ => 0x0D | .tagClash _ => 0x0E | .malformed _ => 0x0F | .portQuiesced _ => 0x10
  | .passDone _ => 0x11 | .formatDone => 0x12 | .stateChanged _ _ => 0x13 | .contained _ => 0x14 | .lost _ => 0x15

/-- Origin in byte 0 and action in byte 1 of an UNCORRECTABLE event's value c; for COPY the action is FFh (R186). -/
def UeAction.value : UeAction → Nat
  | .hostPoisoned => 0x0000 | .hostContained => 0x0100 | .patrolPoisoned => 0x0001 | .copy => 0xFF02

/-- Value a of an event (R145). -/
def Event.valueA : Event → Option Nat
  | .corrected line _ _ => some line
  | .transient line _ _ => some line
  | .uncorrectable line _ _ => some line
  | .suspectThreshold region _ => some region
  | .suspectEvicted region _ => some region
  | .retireQueued region _ _ => some region
  | .retireRefused region => some region
  | .jobStarted region _ _ => some region
  | .jobDone region _ _ _ => some region
  | .noSpare region _ => some region
  | .copyStalled region _ => some region
  | .spareTested index _ => some index
  | .dsTimeout line _ _ => some line
  | .tagClash tag => some tag.val
  | .malformed kind => some kind.toNat
  | .portQuiesced n => some n
  | .passDone pass => some pass.toNat
  | .formatDone => none
  | .stateChanged left _ => some left.code.toNat
  | .contained cause => some cause.code.toNat
  | .lost n => some n

/-- Value b of an event (R145). The refusal reason FULL has code 00h; JOB_DONE carries kind and spare index in bytes 0 and 1. -/
def Event.valueB : Event → Option Nat
  | .corrected _ symbol _ => some symbol
  | .transient _ reads _ => some reads
  | .uncorrectable _ hostLine _ => hostLine
  | .suspectThreshold _ count => some count
  | .suspectEvicted _ count => some count
  | .retireQueued _ kind _ => some kind.code.toNat
  | .retireRefused _ => some 0
  | .jobStarted _ kind _ => some kind.code.toNat
  | .jobDone _ kind spare _ => some (kind.code.toNat + 256 * spare)
  | .noSpare _ kind => some kind.code.toNat
  | .copyStalled _ cursor => some cursor
  | .spareTested _ result => some result.code.toNat
  | .dsTimeout _ op _ => some op.code.toNat
  | .tagClash _ => none
  | .malformed _ => none
  | .portQuiesced _ => none
  | .passDone _ => none
  | .formatDone => none
  | .stateChanged _ entered => some entered.code.toNat
  | .contained _ => none
  | .lost _ => none

/-- Value c of an event (R145). -/
def Event.valueC : Event → Option Nat
  | .corrected _ _ origin => some origin.code.toNat
  | .transient _ _ origin => some origin.code.toNat
  | .uncorrectable _ _ action => some action.value
  | .suspectThreshold _ _ => none
  | .suspectEvicted _ _ => none
  | .retireQueued _ _ origin => some origin.code.toNat
  | .retireRefused _ => none
  | .jobStarted _ _ spare => some spare
  | .jobDone _ _ _ poisoned => some poisoned
  | .noSpare _ _ => none
  | .copyStalled _ _ => none
  | .spareTested _ _ => none
  | .dsTimeout _ _ owner => some owner.code.toNat
  | .tagClash _ => none
  | .malformed _ => none
  | .portQuiesced _ => none
  | .passDone _ => none
  | .formatDone => none
  | .stateChanged _ _ => none
  | .contained _ => none
  | .lost _ => none

/-- The event record result: the record, the fill and the lost count after the command (R189). -/
def eventBytes (r : EventRecord) (fill lost : Nat) : List Byte :=
  le 2 r.seq.toNat ++ [r.event.code] ++ le 2 r.pass.toNat ++ leOpt 4 r.event.valueA ++ leOpt 4 r.event.valueB ++
    leOpt 4 r.event.valueC ++ [byte fill] ++ le 2 lost

/-! ### Shared layouts -/

/-- The six per-pass counts (R118, R190). -/
def countsBytes (k : PassCounts) : List Byte :=
  le 4 k.checked ++ le 4 k.corrected ++ le 4 k.uncorrectable ++ le 4 k.poisoned ++ le 4 k.skipped ++ le 4 k.timeouts

/-- A state history of up to four states, FFh where absent (R190). -/
def historyBytes (h : List BridgeState) : List Byte := (List.range 4).map fun i =>
  match h[i]? with
  | some b => b.code
  | none => 0xFF

/-- The map entry result (R188). -/
def mapEntryBytes (count position : Nat) (e : MapEntry) : List Byte :=
  le 2 count ++ [byte position] ++ le 4 e.region ++ [byte e.spare] ++
    (match e.state with
      | .live => [0x00, 0xFF] ++ absent 4 ++ [0xFF]
      | .copying k q c => [0x01, k.code] ++ le 4 q ++ [byte c]) ++
    [byte e.poisoned, e.origin.code, byte e.replacements]

/-! ### Reply frame and response message -/

/-- The check byte that makes the bytes sum to 0 modulo 256 (R174, R175). -/
def checkByte (bytes : List Byte) : Byte := -(bytes.foldr (· + ·) 0)

/-- The bytes of a reply frame: status, length, result, check byte (R175). -/
def Reply.bytes (r : Reply) : List Byte :=
  let body := [r.status.code, byte r.result.length] ++ r.result
  body ++ [checkByte body]

/-- The `n` bytes a read transaction returns: the reply buffer from its first byte, FFh beyond the check byte (R173). -/
def Reply.busRead (r : Reply) (n : Nat) : List Byte :=
  (List.range n).map fun i =>
    match r.bytes[i]? with
    | some b => b
    | none => 0xFF

/-- The bytes of a response message (R187). -/
def Response.bytes (r : Response) : List Byte :=
  match r.data with
  | some d => [0x81, byte r.tag.val, r.status.code] ++ d.toList
  | none => [0x82, byte r.tag.val, r.status.code]

/-- A command's reply replaces the content of the reply buffer (R175). -/
def State.reply (s : State) (status : Status) (result : List Byte) : State :=
  s.setMgmt { s.mgmt with reply := ⟨status, result⟩ }

end Sys2Proof.Machine
end

