-- ==== Sys2Proof/Machine/Engine.lean ====
section
/-! DEFINITION. The Repair Engine (spec file 03): job starts, copy steps, spare tests, and the commands of the Spare Pool, the
Retirement Queue and the engine. -/

namespace Sys2Proof.Machine

/-! ### Copy steps (not in CONTAIN) -/

/-- The step of the job's cursor line begins: it requests its hold (R48). -/
def State.beginStep (s : State) (j : CopyJob) : State :=
  (s.setEngine (.copying { j with phase := .waitHold })).requestHold (.host (lineOf j.region j.cursor)) .engine

/-- The step's spare write (R48, R49). -/
def State.writeSpare (s : State) (j : CopyJob) (poison : Bool) (w : Codeword) : State :=
  (s.setEngine (.copying { j with phase := .write, poison := poison })).issue
    ⟨.engine, .mwr w, spareLine s.V j.spare j.cursor⟩

/-- The source read of a copy step is classified (R48, R49). -/
def State.copyRead (s : State) (j : CopyJob) (r : ReadResult) : State :=
  match r with
  | .clean d => s.writeSpare j false (encode d)
  | .corrected _ w => s.writeSpare j false w
  | .poison => s.writeSpare j true (poisonMark Data.zero)
  | .uncorrectable =>
    let source := lineOf j.source j.cursor
    if j.attempts - 1 < s.mgmt.params.readRetries then
      (s.setEngine (.copying { j with phase := .retry, attempts := j.attempts + 1 })).issue ⟨.engine, .mrd, source⟩
    else (s.writeSpare j true (poisonMark Data.zero)).logEvent (.uncorrectable source none .copy)

/-- Bridge Control's state after a spare has been allocated (R45, R135). -/
def State.spareAllocated (s : State) : State := if s.bridge.state = .degraded then s.changeBridge .online else s

/-- The old spare's index of a REPLACE job (R53): its source region less V. -/
def State.oldSpare (s : State) (j : CopyJob) : Nat := j.source - s.V

/-- The entry becomes LIVE and, for a REPLACE job, the old spare BAD, in one change (R26, R53). -/
def State.completeMap (s : State) (j : CopyJob) : State :=
  let t := s.setMap (updateEntry s.map j.region (completeEntry j.poison))
  if j.kind = .replace then t.setSpare (s.oldSpare j) .bad else t

/-- The poisoned-lines count of a region's entry. -/
def poisonedOf (map : List MapEntry) (region : Nat) : Nat :=
  match findEntry map region with
  | some e => e.poisoned
  | none => 0

/-- The completion of a job, in the order of R53; what its release activates comes before JOB_DONE (notes/assumptions/11.md). -/
def State.completeJob (s : State) (j : CopyJob) : State :=
  let t := s.completeMap j
  let poisoned := poisonedOf t.map j.region
  (((t.release .engine).logEvent (.jobDone j.region j.kind j.spare poisoned)).hand (.removal j.source)).setEngine .idle

/-- The spare write of the step is acknowledged (R25, R50, R53). DESIGN CHOICE, unsafe: R50 does not order the waiter that the
release activates on line c against the step of line c + 1; where both issue, the waiter issues first here
(notes/assumptions/39.md). -/
def State.copyAck (s : State) (j : CopyJob) : State :=
  if j.cursor < 63 then
    let t := (s.setMap (updateEntry s.map j.region (advanceEntry j.poison))).release .engine
    t.beginStep { j with cursor := j.cursor + 1, timeouts := 0, attempts := 0, poison := false }
  else s.completeJob j

/-- A memory operation of the step times out (R51). DEDUCED, unsafe: the third timeout suspends the job here, in step 1 of R167,
even when step 5 of the same happening then raises DS_FAULT_LIMIT, where the end of R51 reads as if the step were not suspended
(notes/assumptions/33.md). DESIGN CHOICE, unsafe: where the release activates a waiting visit that is skipped and ends the pass,
R146 leaves its PASS_DONE and COPY_STALLED in either order; the release comes first in the list of R51, so PASS_DONE is logged
first (notes/assumptions/11.md). -/
def State.copyTimeout (s : State) (j : CopyJob) : State :=
  let j' := { j with timeouts := j.timeouts + 1, attempts := 0, poison := false }
  if j'.timeouts < 3 then s.readSource j'
  else
    ((s.release .engine).setEngine (.suspended { j' with phase := .none })).logEvent (.copyStalled j.region j.cursor)

/-! ### Spare tests -/

/-- The test of the test's line begins: it requests its hold (R56). -/
def State.beginTestLine (s : State) (t : TestJob) : State :=
  (s.setEngine (.testing { t with phase := .waitHold })).requestHold (.phys (s.testLine t)) .engine

/-- The test ends at its line with a result: the hold is released, and what that activates comes before SPARE_TESTED (R57,
notes/assumptions/11.md). -/
def State.endTest (s : State) (t : TestJob) (r : TestResult) : State := (s.release .engine).finishTest t r

/-- The read of a test line is classified (R56). DESIGN CHOICE, unsafe: where the release activates a diagnostic operation that
waits on the line's PHYS key and the next line's write is issued too, no rule orders the two; the waiter issues first
(notes/assumptions/39.md). -/
def State.testRead (s : State) (t : TestJob) (r : ReadResult) : State :=
  if r = .clean (patternData t.line) then
    if t.line < 63 then (s.release .engine).beginTestLine { t with line := t.line + 1, timeouts := 0 }
    else s.endTest t .good
  else s.endTest t .bad

/-- A memory operation of a test line times out (R56). -/
def State.testTimeout (s : State) (t : TestJob) : State :=
  let t' := { t with timeouts := t.timeouts + 1 }
  if t'.timeouts < 3 then s.writePattern t' else s.endTest t' .timeout

/-- A spare test's memory operation ends; in FORMAT the test is ABANDONED (R56 to R58). -/
def State.testEnd (s : State) (t : TestJob) (e : MemEnd) : State :=
  if s.bridge.state = .format then s.endTest t .abandoned
  else match e with
    | .ack => (s.setEngine (.testing { t with phase := .read })).issue ⟨.engine, .mrd, s.testLine t⟩
    | .read _ r => s.testRead t r
    | .timeout => s.testTimeout t

/-- The engine's memory operation ends, not in CONTAIN. -/
def State.engineEnd (s : State) (e : MemEnd) : State :=
  match s.engine with
  | .copying j =>
    match e with
    | .read _ r => s.copyRead j r
    | .ack => s.copyAck j
    | .timeout => s.copyTimeout j
  | .testing t => s.testEnd t e
  | .idle => s.release .engine
  | .suspended _ => s.release .engine
  | .halted _ => s.release .engine

/-- A running spare test ends without event when the pool is rebuilt (R37): its hold leaves the table with no activation, its
deferred request is removed, its memory operation is abandoned into the quarantine set. -/
def State.endTestSilently (s : State) : State :=
  match s.engine with
  | .testing _ =>
    let abandoned := (s.mem.active.filter fun a => a.owner = .engine).map (·.tag)
    ((s.removeHold .engine).setMem
      { s.mem with
        active := s.mem.active.filter fun a => a.owner ≠ .engine
        quarantine := s.mem.quarantine ++ abandoned
        deferred := s.mem.deferred.filter fun r => r.owner ≠ .engine }).setEngine .idle
  | _ => s

/-- The pool rebuild with the S in force (R37). -/
def State.rebuildPool (s : State) : State :=
  let t := s.endTestSilently
  t.setSpares (List.replicate t.S .free)

/-! ### Job start -/

/-- A new copy job's record (R42, R44). -/
def newJob (region : Nat) (kind : JobKind) (spare source cursor : Nat) : CopyJob :=
  { region, kind, spare, source, cursor, phase := .waitHold, attempts := 0, timeouts := 0, poison := false }

/-- A job start resumes the COPYING entry at its cursor (R44). -/
def State.resumeEntry (s : State) (e : MapEntry) : State :=
  match e.state with
  | .live => s
  | .copying k q c => (s.logEvent (.jobStarted e.region k e.spare)).beginStep (newJob e.region k e.spare q c)

/-- A job start finds no FREE spare: NO_SPARE, the notice to Bridge Control, the STRANDED notice (R47, R135). -/
def State.refuseJob (s : State) (r : Request) (source : Nat) : State :=
  let t := s.logEvent (.noSpare r.region r.kind)
  let t := if t.bridge.state = .online then t.changeBridge .degraded else t
  t.hand (.stranded source)

/-- A job start takes a RETIRE request (R45). -/
def State.startRetire (s : State) (r : Request) : State :=
  match findEntry s.map r.region with
  | some _ => s
  | none =>
    match s.freeSpare? with
    | some i =>
      let t := (s.setSpare i .inUse).setMap (insertEntry (retireEntry r.region i r.origin) s.map)
      ((t.logEvent (.jobStarted r.region .retire i)).spareAllocated).beginStep
        (newJob r.region .retire i r.region 0)
    | none => s.refuseJob r r.region

/-- A job start takes a REPLACE request (R46). -/
def State.startReplace (s : State) (r : Request) : State :=
  match findEntry s.map r.region with
  | none => s
  | some e =>
    match s.freeSpare? with
    | some j =>
      let t := (s.setSpare j .inUse).setMap (updateEntry s.map r.region (convertEntry s.V j))
      ((t.logEvent (.jobStarted r.region .replace j)).spareAllocated).beginStep
        (newJob r.region .replace j (s.V + e.spare) 0)
    | none => s.refuseJob r (s.V + e.spare)

/-- A job start: it resumes the COPYING entry, or takes the head request (R43 to R47). -/
def State.startJob (s : State) : State :=
  match copyingEntry s.map with
  | some e => s.resumeEntry e
  | none =>
    match s.queue with
    | [] => s
    | r :: rest =>
      match r.kind with
      | .retire => (s.setQueue rest).startRetire r
      | .replace => (s.setQueue rest).startReplace r

/-- JOB_START (R43): while the engine is not IDLE, or the bridge is not ONLINE or DEGRADED, no job start is taken
(notes/assumptions/7.md). -/
def execJobStart (s : State) : Host.Outcome State Fault Refusal := s.unlessHeld <|
  if s.engine = .idle && s.inService then .next s.startJob else .next s

/-! ### Spare Pool commands -/

/-- Who names an IN_USE spare: the region, and whether as SOURCE (R35). -/
def namedBy (V : Nat) (map : List MapEntry) (i : Nat) : Option (Nat × Bool) :=
  match entryOfSpare map i with
  | some e => some (e.region, false)
  | none => (entryOfOldSpare map (V + i)).map fun e => (e.region, true)

/-- The result bytes of SPARE_READ (R35, R175). -/
def spareBytes (V : Nat) (map : List MapEntry) (i : Nat) (x : SpareState) : List Byte :=
  [x.code] ++
    (match (if x = .inUse then namedBy V map i else none) with
      | some (r, source) => le 4 r ++ [flagByte source]
      | none => absent 5)

/-- SPARE_READ (R35). -/
def execSpareRead (spare : Byte) (s : State) : Host.Outcome State Fault Refusal := s.unlessHeld <|
  match s.spare? spare.toNat with
  | some x => .next (s.reply .done (spareBytes s.V s.map spare.toNat x))
  | none => .next (s.reply .range [])

/-- SPARE_MARK_BAD (R36). -/
def execSpareMarkBad (spare : Byte) (s : State) : Host.Outcome State Fault Refusal := s.unlessHeld <|
  if s.bridge.state ≠ .standby then .next (s.reply .badState [])
  else match s.spare? spare.toNat with
    | none => .next (s.reply .range [])
    | some .bad => .next (s.reply .already [])
    | some .testing => .next (s.reply .badState [])
    | some .inUse => .next (s.reply .badState [])
    | some .free => .next ((s.setSpare spare.toNat .bad).reply .done [])

/-- A spare test starts (R55, R56). -/
def State.startTest (s : State) (i : Nat) (before : SpareState) : State :=
  (s.setSpare i .testing).beginTestLine { index := i, line := 0, phase := .waitHold, timeouts := 0, before := before }

/-- SPARE_TEST (R55). -/
def execSpareTest (spare : Byte) (s : State) : Host.Outcome State Fault Refusal := s.unlessHeld <|
  if s.closing then .next (s.reply .badState [])
  else if s.engine ≠ .idle then .next (s.reply .busy [])
  else match s.spare? spare.toNat with
    | none => .next (s.reply .range [])
    | some x =>
      if (copyingEntry s.map).isSome then .next (s.reply .badState [])
      else if x = .testing || x = .inUse then .next (s.reply .badState [])
      else .next ((s.startTest spare.toNat x).reply .accepted [])

/-! ### Retirement Queue and engine commands -/

/-- RETIRE (R40). -/
def execRetire (region : BitVec 32) (s : State) : Host.Outcome State Fault Refusal := s.unlessHeld <|
  let r := region.toNat
  let t := s.submit ⟨r, .retire, .management⟩
  if !s.inService then .next (s.reply .badState [])
  else if s.V ≤ r then .next (s.reply .range [])
  else if (match findEntry s.map r with | some e => !e.isCopying | none => false) then .next (s.reply .already [])
  else match s.submission r with
    | .duplicate => .next (s.reply .duplicate [])
    | .full => .next ((s.logEvent (.retireRefused r)).reply .full [])
    | .accepted => .next (t.reply .done [byte t.queue.length])

/-- One request of QUEUE_READ (R41). -/
def requestBytes (r : Request) : List Byte := le 4 r.region ++ [r.kind.code, r.origin.code]

/-- QUEUE_READ (R41). -/
def execQueueRead (s : State) : Host.Outcome State Fault Refusal := s.unlessHeld <|
  .next (s.reply .done ([byte s.queue.length] ++ s.queue.flatMap requestBytes))

/-- RESUME_COPY (R52). -/
def execResumeCopy (s : State) : Host.Outcome State Fault Refusal := s.unlessHeld <|
  match s.engine with
  | .suspended j => .next ((s.beginStep { j with timeouts := 0 }).reply .done [])
  | .idle => .next (s.reply .badState [])
  | .copying _ => .next (s.reply .badState [])
  | .testing _ => .next (s.reply .badState [])
  | .halted _ => .next (s.reply .badState [])

/-- The copy-job fields of ENGINE_STATUS (R59). -/
def jobBytes (j : CopyJob) : List Byte :=
  le 4 j.region ++ [j.kind.code, byte j.spare] ++ le 4 j.source ++
    [byte j.cursor, j.phase.code, byte j.attempts, byte j.timeouts]

/-- The test fields of ENGINE_STATUS (R59). -/
def testBytes (t : TestJob) : List Byte := [byte t.index, byte t.line, t.phase.code, byte t.timeouts]

/-- The result bytes of ENGINE_STATUS (R59, R175). -/
def engineStatusBytes (s : State) : List Byte :=
  [s.engine.code] ++
    (match s.engine with
      | .idle => absent 14 ++ absent 4
      | .copying j => jobBytes j ++ absent 4
      | .suspended j => jobBytes j ++ absent 4
      | .halted j => jobBytes j ++ absent 4
      | .testing t => absent 14 ++ testBytes t) ++
    [byte s.queue.length] ++
    (match s.lastTest with
      | some (i, r) => [byte i, r.code]
      | none => absent 2)

/-- ENGINE_STATUS (R59). -/
def execEngineStatus (s : State) : Host.Outcome State Fault Refusal :=
  s.unlessHeld (.next (s.reply .done (engineStatusBytes s)))

end Sys2Proof.Machine
end

