-- ==== Sys2Proof/Machine/Management.lean ====
section
/-! DEFINITION. The Management Port (spec file 12): rejected frames, IDENTIFY, STATUS, the configuration parameters and the
diagnostic staging pair. -/

namespace Sys2Proof.Machine

/-! ### Frames -/

/-- The parameter bytes of a command code (R174). -/
def paramBytes (code : Byte) : Option Nat :=
  match code.toNat with
  | 0x01 => some 0 | 0x02 => some 0 | 0x03 => some 1 | 0x04 => some 5
  | 0x10 => some 1 | 0x11 => some 0 | 0x12 => some 0 | 0x13 => some 1
  | 0x20 => some 5 | 0x21 => some 1 | 0x22 => some 4
  | 0x28 => some 1 | 0x29 => some 1 | 0x2A => some 1
  | 0x30 => some 4 | 0x31 => some 0 | 0x32 => some 0 | 0x33 => some 0
  | 0x38 => some 1 | 0x39 => some 5
  | 0x40 => some 0 | 0x41 => some 0 | 0x42 => some 0 | 0x43 => some 0 | 0x44 => some 0
  | 0x48 => some 0 | 0x49 => some 0 | 0x4A => some 0 | 0x4B => some 0
  | 0x50 => some 4 | 0x51 => some 0 | 0x52 => some 2 | 0x53 => some 5
  | _ => none

/-- The sum of the bytes modulo 256. -/
def byteSum (bytes : List Byte) : Byte := bytes.foldr (· + ·) 0

/-- The first check of R174 that a frame fails, as its reply. -/
def frameFault (frame : List Byte) : Option Status :=
  match frame with
  | code :: n :: rest =>
    if rest = [] ∨ 20 < n.toNat ∨ rest.length ≠ n.toNat + 1 then some .badFrame
    else if byteSum frame ≠ 0 then some .badFrame
    else match paramBytes code with
      | none => some .unknown
      | some k => if n.toNat = k then none else some .badParam
  | _ => some .badFrame

/-- The frame is a START whose mode is neither KEEP nor FORMAT: it passes R174 and runs no mode (R132). -/
def badStartMode (frame : List Byte) : Bool :=
  match frame with
  | [code, _, mode, _] => code = 0x10 && mode ≠ 0x00 && mode ≠ 0x01
  | _ => false

/-- FRAME_REJECTED (R174), and a START of another mode, which the state check precedes (R132). A write of no byte after the
address is no frame (R173), and a frame that runs a command is not rejected: nothing happens
(notes/assumptions/7.md). -/
def execFrameRejected (frame : List Byte) (s : State) : Host.Outcome State Fault Refusal := s.unlessHeld <|
  if frame = [] then .next s
  else match frameFault frame with
    | some st => .next (s.reply st [])
    | none =>
      if badStartMode frame then
        if s.bridge.state ≠ .standby then .next (s.reply .badState []) else .next (s.reply .badParam [])
      else .next s

/-! ### Identification and status -/

/-- The result bytes of IDENTIFY (R176, R188). -/
def identifyBytes : List Byte := [0x5A, 0x40, 0x22, 0x01, 0x00, 0x01, 0x08, 0x40]

/-- IDENTIFY (R176). -/
def execIdentify (s : State) : Host.Outcome State Fault Refusal :=
  s.unlessHeld (.next (s.reply .done identifyBytes))

/-- The result bytes of STATUS (R176, R188). -/
def statusBytes (s : State) : List Byte :=
  [s.bridge.state.code, s.engine.code, flagByte s.patrol.running, flagByte s.ev.alertLow, byte s.ev.queue.length] ++
    le 2 s.ev.lost ++ le 2 (s.spares.countP (· = .free)) ++ le 2 s.map.length ++
    [byte s.queue.length, flagByte s.link.quiesce, byte s.mem.faults, byte s.mem.quarantine.length, flagByte s.diagBusy]

/-- STATUS (R176). -/
def execStatus (s : State) : Host.Outcome State Fault Refusal :=
  s.unlessHeld (.next (s.reply .done (statusBytes s)))

/-! ### Configuration -/

/-- UE_POLICY as a number (R177). -/
def UePolicy.value : UePolicy → Nat
  | .poison => 0
  | .contain => 1

/-- The value in force of a parameter (R177). -/
def Params.get (c : Params) (id : Nat) : Option Nat :=
  match id with
  | 1 => some c.memRegions
  | 2 => some c.spareCount
  | 3 => some c.ceThreshold
  | 4 => some c.readRetries
  | 5 => some c.uePolicy.value
  | 6 => some c.dsTimeoutUs
  | 7 => some c.dsFaultLimit
  | 8 => some c.patrolIntervalUs
  | 9 => some c.alertLevel
  | 10 => some c.autoRetire.toNat
  | 11 => some c.eventCorrected.toNat
  | _ => none

/-- The range of a parameter (R177). -/
def paramRange (id : Nat) : Nat × Nat :=
  match id with
  | 1 => (64, 4194304)
  | 2 => (0, 256)
  | 3 => (1, 255)
  | 4 => (0, 3)
  | 5 => (0, 1)
  | 6 => (1, 255)
  | 7 => (1, 15)
  | 8 => (1, 65535)
  | 9 => (1, 64)
  | 10 => (0, 1)
  | _ => (0, 1)

/-- Store a value in range (R178). -/
def Params.set (c : Params) (id v : Nat) : Params :=
  match id with
  | 1 => { c with memRegions := v }
  | 2 => { c with spareCount := v }
  | 3 => { c with ceThreshold := v }
  | 4 => { c with readRetries := v }
  | 5 => { c with uePolicy := if v = 0 then .poison else .contain }
  | 6 => { c with dsTimeoutUs := v }
  | 7 => { c with dsFaultLimit := v }
  | 8 => { c with patrolIntervalUs := v }
  | 9 => { c with alertLevel := v }
  | 10 => { c with autoRetire := v = 1 }
  | 11 => { c with eventCorrected := v = 1 }
  | _ => c

/-- CONFIG_GET (R177). -/
def execConfigGet (id : Byte) (s : State) : Host.Outcome State Fault Refusal := s.unlessHeld <|
  match s.mgmt.params.get id.toNat with
  | some v => .next (s.reply .done ([id] ++ le 4 v))
  | none => .next (s.reply .badParam [])

/-- The parameter is MEM_REGIONS or SPARE_COUNT. -/
def isGeometry (id : Byte) : Bool := id = 1 || id = 2

/-- The value is stored. -/
def State.setParam (s : State) (id : Byte) (v : Nat) : State :=
  s.setMgmt { s.mgmt with params := s.mgmt.params.set id.toNat v }

/-- The effects of a geometry change beside the new value (R4, R113, R129). -/
def State.geometryChange (s : State) : State :=
  let t := ((s.rebuildPool).setSuspects []).setInbox []
  t.setPatrol { t.patrol with position := 0, counts := PassCounts.zero }

/-- CONFIG_SET (R4, R178): the checks in order, the first that fails replies. -/
def execConfigSet (id : Byte) (value : BitVec 32) (s : State) : Host.Outcome State Fault Refusal := s.unlessHeld <|
  let v := value.toNat
  let new := s.mgmt.params.set id.toNat v
  let done (t : State) : Host.Outcome State Fault Refusal := .next (t.reply .done ([id] ++ le 4 v))
  if id.toNat < 1 ∨ 11 < id.toNat then .next (s.reply .badParam [])
  else if isGeometry id ∧ ¬ (s.bridge.state = .standby ∧ s.map = []) then .next (s.reply .badState [])
  else if isGeometry id ∧ s.diagBusy then .next (s.reply .busy [])
  else if v < (paramRange id.toNat).1 ∨ (paramRange id.toNat).2 < v then .next (s.reply .range [])
  else if isGeometry id ∧ new.memRegions ≤ new.spareCount then .next (s.reply .range [])
  else if isGeometry id then done (s.setParam id v).geometryChange
  else if id = 9 then done (s.setParam id v).refreshAlert
  else done (s.setParam id v)

/-! ### The diagnostic staging pair -/

/-- The key of a diagnostic operation on physical line `p` (R64). -/
def State.diagKey (s : State) (p : Nat) : Key :=
  match servedBy s.V s.map p with
  | some h => .host h
  | none => .phys p

/-- The region of `p` is IN_COPY (R181, R183). -/
def State.lineInCopy (s : State) (p : Nat) : Bool :=
  match s.relation (regionOf p) with
  | .inCopy _ _ => true
  | _ => false

/-- A diagnostic operation is accepted: busy is set and the hold is requested (R64, R181, R183). -/
def State.startDiag (s : State) (k : DiagKind) (p : Nat) : State :=
  (s.setMgmt { s.mgmt with diag := some ⟨k, p⟩ }).requestHold (s.diagKey p) .diag

/-- DIAG_FETCH (R181). -/
def execDiagFetch (line : BitVec 32) (s : State) : Host.Outcome State Fault Refusal := s.unlessHeld <|
  let p := line.toNat
  if s.closing then .next (s.reply .badState [])
  else if s.diagBusy then .next (s.reply .busy [])
  else if s.P * 64 ≤ p then .next (s.reply .range [])
  else if s.lineInCopy p then .next (s.reply .badState [])
  else .next ((s.startDiag .fetch p).reply .accepted [])

/-- DIAG_SWAP (R180). -/
def execDiagSwap (s : State) : Host.Outcome State Fault Refusal := s.unlessHeld <|
  if s.diagBusy then .next (s.reply .busy [])
  else
    .next ((s.setMgmt { s.mgmt with view := s.mgmt.fill, fill := s.mgmt.view }).reply .done
      [flagByte s.mgmt.fill.valid, s.mgmt.fill.cls.code])

/-- DIAG_READ (R180). -/
def execDiagRead (offset length : Byte) (s : State) : Host.Outcome State Fault Refusal := s.unlessHeld <|
  let o := offset.toNat
  let n := length.toNat
  if 71 < o ∨ n < 1 ∨ 16 < n ∨ 72 < o + n then .next (s.reply .range [])
  else if !s.mgmt.view.valid then .next (s.reply .badState [])
  else
    .next (s.reply .done
      (le 4 s.mgmt.view.line ++ [s.mgmt.view.cls.code] ++ ((symbolList s.mgmt.view.symbols).drop o).take n))

/-- The physical line is a line of a spare whose record is FREE or BAD (R183). -/
def State.onIdleSpare (s : State) (p : Nat) : Bool :=
  s.V ≤ regionOf p && (s.spare? (regionOf p - s.V) = some .free || s.spare? (regionOf p - s.V) = some .bad)

/-- DIAG_STORE (R174, R183). -/
def execDiagStore (line : BitVec 32) (mode : Byte) (s : State) : Host.Outcome State Fault Refusal := s.unlessHeld <|
  let p := line.toNat
  if mode ≠ 0x00 ∧ mode ≠ 0x01 then .next (s.reply .badParam [])
  else if s.closing then .next (s.reply .badState [])
  else if s.diagBusy then .next (s.reply .busy [])
  else if s.P * 64 ≤ p then .next (s.reply .range [])
  else if s.lineInCopy p then .next (s.reply .badState [])
  else if !s.mgmt.view.valid then .next (s.reply .badState [])
  else if s.inService && !s.onIdleSpare p then .next (s.reply .badState [])
  else .next ((s.startDiag (if mode = 0x00 then .storeCode else .storePoison) p).reply .accepted [])

end Sys2Proof.Machine
end

