-- ==== Sys2Proof/Decode.lean ====
section
/-! DEFINITION. What a bus partner's bytes spell. spec/opcode_table.json gives no row any bits, so `decodeTableWord` answers
none for every word. Beside it stand the decoder and the encoder of the management frames (R174), the transactions of the
two-wire bus that carry them (R173), and the decoder of the host link's request messages (R187). -/

namespace Sys2Proof

open Sys2Proof.Machine

/-- The command a word spells by the table's bits: the table gives no row any bits, so none. -/
def decodeTableWord (_nbits _w : Nat) : Option Instr := none

/-! ### Management frames (R174) -/

/-- Four bytes, least significant first, as a number (R186). -/
def word4 (b0 b1 b2 b3 : Byte) : BitVec 32 := b3 ++ b2 ++ b1 ++ b0

/-- The command of a code with its parameter bytes; none when no row is for them. -/
def commandOf (code : Byte) (params : List Byte) : Option Instr :=
  match code.toNat, params with
  | 0x01, [] => some .identify
  | 0x02, [] => some .status
  | 0x03, [id] => some (.configGet id)
  | 0x04, [id, a, b, c, d] => some (.configSet id (word4 a b c d))
  | 0x10, [mode] => if mode = 0x00 then some .startKeep else if mode = 0x01 then some .startFormat else none
  | 0x11, [] => some .softReset
  | 0x12, [] => some .forceContain
  | 0x13, [x] => some (.containRead x)
  | 0x20, [a, b, c, d, i] => some (.mapLoad (word4 a b c d) i)
  | 0x21, [x] => some (.mapRead x)
  | 0x22, [a, b, c, d] => some (.mapFind (word4 a b c d))
  | 0x28, [i] => some (.spareRead i)
  | 0x29, [i] => some (.spareMarkBad i)
  | 0x2A, [i] => some (.spareTest i)
  | 0x30, [a, b, c, d] => some (.retire (word4 a b c d))
  | 0x31, [] => some .queueRead
  | 0x32, [] => some .resumeCopy
  | 0x33, [] => some .engineStatus
  | 0x38, [x] => some (.suspectRead x)
  | 0x39, [x, a, b, c, d] => some (.suspectClear x (word4 a b c d))
  | 0x40, [] => some .patrolStart
  | 0x41, [] => some .patrolStop
  | 0x42, [] => some .patrolStatus
  | 0x43, [] => some .summaryRead
  | 0x44, [] => some .summaryClear
  | 0x48, [] => some .eventPeek
  | 0x49, [] => some .eventPop
  | 0x4A, [] => some .countersRead
  | 0x4B, [] => some .countersClear
  | 0x50, [a, b, c, d] => some (.diagFetch (word4 a b c d))
  | 0x51, [] => some .diagSwap
  | 0x52, [o, n] => some (.diagRead o n)
  | 0x53, [a, b, c, d, x] => some (.diagStore (word4 a b c d) x)
  | _, _ => none

/-- The command a frame presents to the part: a frame that fails a check of R174, or a START of another mode, is
FRAME_REJECTED; a write of no byte after the address is no frame (R173). -/
def decodeFrame (frame : List Byte) : Option Instr :=
  match frame with
  | [] => none
  | code :: rest =>
    match frameFault frame with
    | some _ => some (.frameRejected frame)
    | none =>
      match commandOf code ((rest.drop 1).dropLast) with
      | some c => some c
      | none => some (.frameRejected frame)

/-- The four bytes of a number, least significant first (R186). -/
def bytes4 (v : BitVec 32) : List Byte :=
  [v.extractLsb' 0 8, v.extractLsb' 8 8, v.extractLsb' 16 8, v.extractLsb' 24 8]

/-- Code and parameter bytes of a management command (R174). -/
def frameParts : Instr → Option (Byte × List Byte)
  | .identify => some (0x01, [])
  | .status => some (0x02, [])
  | .configGet id => some (0x03, [id])
  | .configSet id v => some (0x04, id :: bytes4 v)
  | .startKeep => some (0x10, [0x00])
  | .startFormat => some (0x10, [0x01])
  | .softReset => some (0x11, [])
  | .forceContain => some (0x12, [])
  | .containRead x => some (0x13, [x])
  | .mapLoad r i => some (0x20, bytes4 r ++ [i])
  | .mapRead x => some (0x21, [x])
  | .mapFind r => some (0x22, bytes4 r)
  | .spareRead i => some (0x28, [i])
  | .spareMarkBad i => some (0x29, [i])
  | .spareTest i => some (0x2A, [i])
  | .retire r => some (0x30, bytes4 r)
  | .queueRead => some (0x31, [])
  | .resumeCopy => some (0x32, [])
  | .engineStatus => some (0x33, [])
  | .suspectRead x => some (0x38, [x])
  | .suspectClear x r => some (0x39, x :: bytes4 r)
  | .patrolStart => some (0x40, [])
  | .patrolStop => some (0x41, [])
  | .patrolStatus => some (0x42, [])
  | .summaryRead => some (0x43, [])
  | .summaryClear => some (0x44, [])
  | .eventPeek => some (0x48, [])
  | .eventPop => some (0x49, [])
  | .countersRead => some (0x4A, [])
  | .countersClear => some (0x4B, [])
  | .diagFetch p => some (0x50, bytes4 p)
  | .diagSwap => some (0x51, [])
  | .diagRead o n => some (0x52, [o, n])
  | .diagStore p x => some (0x53, bytes4 p ++ [x])
  | .hardReset _ _ => none
  | .linkReset _ => none
  | .rd _ _ => none
  | .wr _ _ _ => none
  | .wrp _ _ _ _ => none
  | .malformed _ => none
  | .readData _ _ _ => none
  | .writeAck _ _ => none
  | .memoryTimeout _ => none
  | .intervalTimerRunOut => none
  | .reportTaken => none
  | .passEndNotice => none
  | .strandedNotice => none
  | .removalNotice => none
  | .containmentRequest _ => none
  | .jobStart => none
  | .frameRejected _ => none

/-- A frame of a code and parameter bytes, with its check byte (R174). -/
def frameOf (code : Byte) (params : List Byte) : List Byte :=
  let body := code :: BitVec.ofNat 8 params.length :: params
  body ++ [checkByte body]

/-- The frame of a management command (R174). -/
def encodeFrame (i : Instr) : Option (List Byte) := (frameParts i).map fun x => frameOf x.1 x.2

/-! ### Bus transactions (R173) -/

/-- What the management port sees on SCL and SDA (R173). -/
inductive BusSignal where
  /-- a start condition; within a transaction, a repeated start -/
  | start
  /-- a byte, transferred whole -/
  | byte (b : Byte)
  /-- a byte partly transferred: the start or stop condition that follows is a bus error -/
  | partByte
  | stop
  deriving DecidableEq, Repr

/-- A transaction that has ended (R173). -/
structure BusTransaction where
  /-- the address in the address byte -/
  address : BitVec 7
  /-- the controller reads; else it writes -/
  read : Bool
  /-- the bytes that follow the address byte, each transferred whole -/
  bytes : List Byte
  deriving DecidableEq, Repr

/-- The address byte: the 7-bit address above the direction bit, 1 for a read. PRESUMED, unsafe: R173 names the I2C kind of bus
and no bit positions (notes/assumptions/32.md). -/
def addressByte (address : BitVec 7) (read : Bool) : Byte := address ++ BitVec.ofBool read

/-- The transaction whose bytes, the address byte first, are these; without an address byte nothing is addressed. -/
def transactionOf : List Byte → Option BusTransaction
  | [] => none
  | a :: bytes => some { address := a.extractLsb' 1 7, read := a.getLsbD 0, bytes }

/-- The transactions that end in a sequence of signals, after the bytes of the one in progress, if any: a transaction ends at a
stop or a repeated start, and at a bus error at once. DEDUCED, unsafe: the byte that a bus error cuts short is not part of the
transaction, and a start condition that is a bus error begins the next one (notes/assumptions/31.md). -/
def transactionsAfter : Option (List Byte) → List BusSignal → List BusTransaction
  | _, [] => []
  | none, .start :: xs => transactionsAfter (some []) xs
  | none, .byte _ :: xs => transactionsAfter none xs
  | none, .partByte :: xs => transactionsAfter none xs
  | none, .stop :: xs => transactionsAfter none xs
  | some bs, .start :: xs => (transactionOf bs).toList ++ transactionsAfter (some []) xs
  | some bs, .byte b :: xs => transactionsAfter (some (bs ++ [b])) xs
  | some bs, .partByte :: xs => transactionsAfter (some bs) xs
  | some bs, .stop :: xs => (transactionOf bs).toList ++ transactionsAfter none xs

/-- The transactions that end in a sequence of signals on an idle bus (R173). -/
def transactions (signals : List BusSignal) : List BusTransaction := transactionsAfter none signals

/-- What the management port makes of a transaction (R173). -/
inductive BusAnswer where
  | notAcknowledged
  /-- acknowledged, with no effect: a write of no byte -/
  | nothing
  /-- a read: the bytes the port returns -/
  | returned (bytes : List Byte)
  /-- a write of a command frame: the happening it is -/
  | command (c : Instr)
  deriving DecidableEq, Repr

/-- What the port makes of a transaction: it answers at its own address alone, and not while RESET_N is low (R173, R185,
notes/assumptions/15.md). -/
def Machine.State.busAnswer (s : State) (x : BusTransaction) : BusAnswer :=
  if s.resetLow || x.address ≠ s.mgmt.address then .notAcknowledged
  else if x.read then .returned (s.mgmt.reply.busRead x.bytes.length)
  else match decodeFrame x.bytes with
    | some c => .command c
    | none => .nothing

/-- The command a transaction presents to the part, if any. -/
def BusAnswer.command? : BusAnswer → Option Instr
  | .command c => some c
  | .notAcknowledged => none
  | .nothing => none
  | .returned _ => none

/-- The frames that end in a sequence of signals on an idle bus join the commands that wait, each as one happening (R173). -/
def Machine.State.takeSignals (s : State) (signals : List BusSignal) : State :=
  s.setPending (s.pending ++ (transactions signals).filterMap fun x => (s.busAnswer x).command?)

/-! ### Host link request messages (R187) -/

/-- 64 bytes as data. -/
def dataOf (bytes : List Byte) : Data := Vector.ofFn fun i : Fin 64 => bytes.getD i 0

/-- Eight mask bytes: selector i is bit (i mod 8) of byte (i div 8). -/
def maskOf (bytes : List Byte) : BitVec 64 :=
  (List.range 8).foldl (fun m i => m ||| ((bytes.getD i 0).setWidth 64 <<< (8 * i))) 0

/-- The command a request message presents: the kind decides which fields it carries. DESIGN CHOICE, safe: a unit of a kind RD, WR
or WRP whose length or tag is not that of the kind, and a unit of no byte, which has no kind, present no command
(notes/assumptions/21.md). -/
def decodeHostMessage (bytes : List Byte) : Option Instr :=
  match bytes with
  | [] => none
  | kind :: rest =>
    if !isRequestKind kind then some (.malformed kind)
    else match rest with
      | tag :: a :: b :: c :: d :: payload =>
        if h : tag.toNat < 32 then
          let t : Fin 32 := ⟨tag.toNat, h⟩
          if kind = 0x01 then if payload = [] then some (.rd t (word4 a b c d)) else none
          else if kind = 0x02 then
            if payload.length = 64 then some (.wr t (word4 a b c d) (dataOf payload)) else none
          else if payload.length = 72 then
            some (.wrp t (word4 a b c d) (dataOf payload) (maskOf (payload.drop 64)))
          else none
        else none
      | _ => none

end Sys2Proof
end

