-- ==== Sys2Proof/Machine/Patrol.lean ====
section
/-! DEFINITION. The Patrol Scrubber's visits and its commands (spec file 07). -/

namespace Sys2Proof.Machine

/-! ### What a visit does when its memory operation ends (not in CONTAIN) -/

/-- The visit releases its hold and ends (R121 to R124). DESIGN CHOICE, unsafe: where the end both activates the oldest waiter
on HOST(h) and starts a due visit, no rule says which owner issues first; the waiter issues first here
(notes/assumptions/36.md). -/
def State.releaseVisit (s : State) (e : VisitEnd) : State := (s.release .patrol).endVisit e

/-- The visit issues an MWR and waits for it in phase WRITE (R121, R122). -/
def State.visitWrite (s : State) (v : Visit) (tally : Tally) (w : Codeword) : State :=
  (s.setPatrol { s.patrol with visit := some { v with phase := .write, tally := tally } }).issue
    ⟨.patrol, .mwr w, v.phys.getD 0⟩

/-- An UNCORRECTABLE read of a visit: a retry while the retries made are below READ_RETRIES, else final (R122). -/
def State.visitUncorrectable (s : State) (v : Visit) : State :=
  let p := v.phys.getD 0
  if v.attempts - 1 < s.mgmt.params.readRetries then
    (s.setPatrol { s.patrol with visit := some { v with phase := .retry, attempts := v.attempts + 1 } }).issue
      ⟨.patrol, .mrd, p⟩
  else
    ((s.visitWrite v .uncorrectable (poisonMark Data.zero)).hand (.report ⟨.uncorrectable, .patrol, p⟩)).logEvent
      (.uncorrectable p (some v.line) .patrolPoisoned)

/-- A read of a visit is classified (R121, R122). -/
def State.visitRead (s : State) (v : Visit) (r : ReadResult) : State :=
  let p := v.phys.getD 0
  let transient := v.phase = .retry
  match r with
  | .clean _ => (if transient then s.patrolTransient p v.attempts else s).releaseVisit .checked
  | .corrected k w =>
    (if transient then s.patrolTransient p v.attempts else s.hand (.report ⟨.corrected k, .patrol, p⟩)).visitWrite v
      .corrected w
  | .poison => s.releaseVisit .poisoned
  | .uncorrectable => s.visitUncorrectable v

/-- A visit's memory operation ends, not in CONTAIN (R121 to R123). -/
def State.patrolEnd (s : State) (e : MemEnd) : State :=
  match s.patrol.visit with
  | none => s
  | some v =>
    match e with
    | .read _ r => s.visitRead v r
    | .ack => s.releaseVisit v.tally.visitEnd
    | .timeout => s.releaseVisit (.timeout v.tally)

/-! ### The interval timer -/

/-- The timer has run out, by the state it finds (R115). -/
def State.timerRunOut (s : State) : State :=
  if !s.patrol.running then s.setPatrol { s.patrol with timer := .stopped }
  else if s.bridge.state = .contain then s.setPatrol { s.patrol with timer := .stopped }
  else if s.patrol.visit.isSome then s.setPatrol { s.patrol with timer := .runOut, due := true }
  else if s.inService then
    let r := s.startVisit
    r.1.settleKeys r.2
  else s.setPatrol { s.patrol with timer := .stopped }

/-- INTERVAL_TIMER_RUN_OUT (R115). A timer that is not running does not run out: nothing happens
(notes/assumptions/7.md). -/
def execIntervalTimerRunOut (s : State) : Host.Outcome State Fault Refusal := s.unlessHeld <|
  match s.patrol.timer with
  | .running _ => .next s.timerRunOut
  | .stopped => .next s
  | .runOut => .next s

/-! ### Commands -/

/-- PATROL_START (R116). -/
def execPatrolStart (s : State) : Host.Outcome State Fault Refusal := s.unlessHeld <|
  if !s.inService then .next (s.reply .badState [])
  else if s.patrol.running then .next (s.reply .already [])
  else
    .next ((s.setPatrol
      { s.patrol with running := true, due := false, timer := .running s.mgmt.params.patrolIntervalUs }).reply .done [])

/-- PATROL_STOP (R117). -/
def execPatrolStop (s : State) : Host.Outcome State Fault Refusal := s.unlessHeld <|
  .next ((s.setPatrol { s.patrol with running := false, due := false, timer := .stopped }).reply .done [])

/-- The result bytes of PATROL_STATUS (R118, R175). -/
def patrolStatusBytes (p : Patrol) : List Byte :=
  [flagByte p.running] ++ le 4 p.position ++ le 2 p.pass.toNat ++ countsBytes p.counts ++
    [(match p.visit with | some v => v.phase.code | none => Phase.none.code)]

/-- PATROL_STATUS (R118). -/
def execPatrolStatus (s : State) : Host.Outcome State Fault Refusal :=
  s.unlessHeld (.next (s.reply .done (patrolStatusBytes s.patrol)))

/-- The result bytes of SUMMARY_READ (R190). -/
def summaryBytes (p : Patrol) : List Byte :=
  [flagByte p.summaryValid] ++ le 2 p.summary.pass.toNat ++ countsBytes p.summary.counts ++ [byte p.missed]

/-- SUMMARY_READ (R127). -/
def execSummaryRead (s : State) : Host.Outcome State Fault Refusal :=
  s.unlessHeld (.next (s.reply .done (summaryBytes s.patrol)))

/-- SUMMARY_CLEAR (R127). -/
def execSummaryClear (s : State) : Host.Outcome State Fault Refusal := s.unlessHeld <|
  .next ((s.setPatrol { s.patrol with summaryValid := false, missed := 0 }).reply .done [byte s.patrol.missed])

end Sys2Proof.Machine
end

