-- ==== Sys2Proof/Machine/Memory.lean ====
section
/-! DEFINITION. The Memory Port (spec file 11): answers, late answers, timeouts and the deferred list, and what each owner does
when its memory operation ends. -/

namespace Sys2Proof.Machine

/-! ### The format cursor -/

/-- The format's last write is acknowledged: FORMAT_DONE, then the change to ONLINE (R133). -/
def State.formatDone (s : State) : State :=
  let t := (s.logEvent .formatDone).changeBridge .online
  t.setBridge { t.bridge with cursor := none }

/-- The format cursor writes the zero codeword to its line (R133). -/
def State.formatWrite (s : State) (line : Nat) : State :=
  (s.setBridge { s.bridge with cursor := some ⟨line, false⟩ }).issue ⟨.format, .mwr (encode Data.zero), line⟩

/-- A format write ends, not in CONTAIN (R133). -/
def State.formatEnd (s : State) (e : MemEnd) : State :=
  match s.bridge.cursor with
  | none => s
  | some c =>
    match e with
    | .ack => if c.line + 1 = s.P * 64 then s.formatDone else s.formatWrite (c.line + 1)
    | .timeout => s.formatWrite c.line
    | .read _ _ => s

/-! ### Owners -/

/-- A diagnostic operation's memory operation ends, not in CONTAIN (R182, R183). -/
def State.diagEnd (s : State) (e : MemEnd) : State :=
  match s.mgmt.diag with
  | some d => (s.finishDiag d e).release .diag
  | none => s

/-- The owner is told how its memory operation ended and acts by its own rules (R166, R167). -/
def State.tellOwner (s : State) (o : Owner) (e : MemEnd) : State :=
  if s.bridge.state = .contain then s.endInContain o e
  else match o with
    | .host t => s.hostEnd t e
    | .patrol => s.patrolEnd e
    | .engine => s.engineEnd e
    | .diag => s.diagEnd e
    | .format => s.formatEnd e

/-! ### Answers -/

/-- The active operation under a tag. -/
def State.activeOf (s : State) (t : Fin 64) : Option ActiveOp := s.mem.active.find? fun a => a.tag = t

/-- A timely answer: the timer stops, the tag is free, the consecutive-fault count is 0 (R166). -/
def State.complete (s : State) (t : Fin 64) : State :=
  s.setMem { s.mem with active := s.mem.active.filter (fun a => a.tag ≠ t), faults := 0 }

/-- Every deferred request is issued, in list order (R170). -/
def State.issueDeferred (s : State) : State :=
  s.mem.deferred.foldl State.issue (s.setMem { s.mem with deferred := [] })

/-- An answer that completes no operation is discarded and counted; a quarantined tag becomes free, and the deferred list is
acted on when that brings the quarantine below 28 (R168, R170). -/
def State.lateAnswer (s : State) (gen : Byte) (t : Fin 64) : State :=
  let u := s.count Counters.bumpLateAnswers
  if gen = u.mem.generation && u.mem.quarantine.contains t then
    let v := u.setMem { u.mem with quarantine := u.mem.quarantine.filter (· ≠ t) }
    if 28 ≤ u.mem.quarantine.length && v.mem.quarantine.length < 28 && v.bridge.state ≠ .contain then v.issueDeferred
    else v
  else u

/-- READ_DATA (R166, R168). -/
def execReadData (gen : Byte) (tag : Fin 64) (symbols : Codeword) (s : State) : Host.Outcome State Fault Refusal :=
  s.unlessHeld <|
  match s.activeOf tag with
  | some a =>
    if gen = s.mem.generation && a.kind = .mrd then
      .next ((s.complete tag).tellOwner a.owner (.read symbols (classify symbols)))
    else .next (s.lateAnswer gen tag)
  | none => .next (s.lateAnswer gen tag)

/-- WRITE_ACK (R166, R168). -/
def execWriteAck (gen : Byte) (tag : Fin 64) (s : State) : Host.Outcome State Fault Refusal := s.unlessHeld <|
  match s.activeOf tag with
  | some a =>
    if gen = s.mem.generation && a.kind ≠ .mrd then .next ((s.complete tag).tellOwner a.owner .ack)
    else .next (s.lateAnswer gen tag)
  | none => .next (s.lateAnswer gen tag)

/-! ### Timeouts -/

/-- The operation kind an event names (R145). -/
def MemKind.name : MemKind → OpName
  | .mrd => .mrd
  | .mwr _ => .mwr

/-- The owner an event names (R145). -/
def Owner.name : Owner → OwnerName
  | .host _ => .host
  | .patrol => .patrol
  | .engine => .engine
  | .diag => .diag
  | .format => .format

/-- The tag moves from the active entries into the quarantine set, and the consecutive-fault count rises (R167 steps 2
and 3). -/
def State.quarantineTag (s : State) (t : Fin 64) : State :=
  s.setMem
    { s.mem with
      active := s.mem.active.filter fun a => a.tag ≠ t
      quarantine := s.mem.quarantine ++ [t]
      faults := satSucc 255 s.mem.faults }

/-- The containment requests a timeout raises (R167 step 5, R169). -/
def State.raiseFaults (s : State) (line : Nat) : State :=
  let t := if s.mgmt.params.dsFaultLimit ≤ s.mem.faults then s.handFromMemory ⟨.dsFaultLimit, some line⟩ else s
  if t.mem.quarantine.length = 28 then t.handFromMemory ⟨.dsStuck, none⟩ else t

/-- An active operation ends as TIMEOUT, in the order of R167. DEDUCED, unsafe: what the owner or a released line's waiter issues in
step 1 reads the quarantine before the tag joins it in step 2, so with 27 tags there it is sent and not deferred; R165 speaks of
the retry as issued while the first tag sits in quarantine (notes/assumptions/38.md). -/
def State.timeOut (s : State) (a : ActiveOp) : State :=
  let t := (s.tellOwner a.owner .timeout).quarantineTag a.tag
  ((t.logEvent (.dsTimeout a.line a.kind.name a.owner.name)).count Counters.bumpDsTimeouts).raiseFaults a.line

/-- MEMORY_TIMEOUT (R167). Under a tag with no active operation no timer runs: nothing happens
(notes/assumptions/7.md). -/
def execMemoryTimeout (tag : Fin 64) (s : State) : Host.Outcome State Fault Refusal := s.unlessHeld <|
  match s.activeOf tag with
  | some a => .next (s.timeOut a)
  | none => .next s

end Sys2Proof.Machine
end

