-- ==== Sys2Proof/Machine/BridgeControl.lean ====
section
/-! DEFINITION. Bridge Control (spec file 08): START, containment, soft and hard reset, CONTAIN_READ, FORCE_CONTAIN. -/

namespace Sys2Proof.Machine

/-! ### Withdrawal and ended requests -/

/-- The owners of the WAITING entries, in arrival order. -/
def State.waitingOwners (s : State) : List Owner := (s.order.entries.filter fun e => !e.active).map (·.owner)

/-- Every WAITING entry is withdrawn (R70, R74, R75). -/
def State.withdrawWaiting (s : State) : State :=
  s.setOrder { s.order with entries := s.order.entries.filter (·.active) }

/-- An owner is told that its hold was withdrawn at entry into CONTAIN or FORMAT (R54, R58, R74, R95, R128, R184). -/
def State.withdrawn (s : State) (o : Owner) : State :=
  match o with
  | .host t =>
    match s.opOf t with
    | some op => (s.respond op .failed Data.zero).endHostOp op
    | none => s
  | .patrol => s.setPatrol { s.patrol with visit := none, running := false }
  | .engine =>
    match s.engine with
    | .testing t => s.finishTest t .abandoned
    | _ => s
  | .diag => s.setMgmt { s.mgmt with diag := none }
  | .format => s

/-- The deferred list is emptied (R170). -/
def State.clearDeferred (s : State) : State := s.setMem { s.mem with deferred := [] }

/-! ### Entry into CONTAIN -/

/-- What the engine does at once: a copy job is HALTED with step phase NONE (R54). -/
def EngineState.halt : EngineState → EngineState
  | .copying j => .halted { j with phase := .none }
  | .suspended j => .halted { j with phase := .none }
  | .idle => .idle
  | .testing t => .testing t
  | .halted j => .halted j

/-- What the patrol does at once: the timer stops, visit due is cleared, and without a visit the running flag is cleared
(R128). -/
def Patrol.stop (p : Patrol) : Patrol :=
  { p with timer := .stopped, due := false, running := if p.visit.isNone then false else p.running }

/-- The Containment Record at entry (R137). -/
def State.newRecord (s : State) (r : ContainRequest) : ContainRecord :=
  { valid := true, cause := r.cause, line := r.line, history := s.bridge.history, pass := s.patrol.pass, laterCount := 0,
    latestLater := none }

/-- Bridge Control's own part of the entry, steps 1 to 3 of R137. -/
def State.enterContainControl (s : State) (r : ContainRequest) : State :=
  let left := s.bridge.state
  let t := s.setBridge { s.bridge with state := .contain, history := pushHistory left s.bridge.history, cursor := none }
  let t := t.setBridge { t.bridge with record := some (t.newRecord r) }
  (t.logEvent (.stateChanged left .contain)).logEvent (.contained r.cause)

/-- A number for each owner, for the free order. -/
def Owner.number : Owner → Nat
  | .host t => t.val
  | .patrol => 32
  | .engine => 33
  | .diag => 34
  | .format => 35

/-- An owner whose waiting hold was withdrawn or whose deferred request ends as TIMEOUT (R74, R170). -/
def State.containOwner (withdrawnOwners : List Owner) (s : State) (o : Owner) : State :=
  if withdrawnOwners.contains o then s.withdrawn o else s.endInContain o .timeout

/-- The blocks act on the notice, step 4 of R137. The engine and the owners of deferred requests, which can log events, act in
a free order; the responses produced here leave in a free order (R95, R146, R160; notes/assumptions/3.md). -/
def State.enterContainBlocks (s : State) : State :=
  let waiting := s.waitingOwners
  let deferred := s.mem.deferred.map (·.owner)
  let quiet := waiting.filter (· ≠ .engine)
  let loud := arrange (fun o => Config.order s.free o.number) (waiting.filter (· = .engine) ++ deferred)
  let t := (s.setFree (s.free + 2)).withdrawWaiting.clearDeferred
  let t := (t.setEngine t.engine.halt).setPatrol t.patrol.stop
  let t := t.setHostOut []
  let t := loud.foldl (State.containOwner waiting) (quiet.foldl (State.containOwner waiting) t)
  t.setHostOut (s.hostOut ++ arrange (fun r => Config.order (s.free + 1) r.tag.val) t.hostOut)

/-- Entry into CONTAIN (R137). -/
def State.enterContain (s : State) (r : ContainRequest) : State := (s.enterContainControl r).enterContainBlocks

/-- A later cause (R139). -/
def State.laterCause (s : State) (c : Cause) : State :=
  s.setBridge
    { s.bridge with
      record := s.bridge.record.map fun x => { x with laterCount := satSucc 255 x.laterCount, latestLater := some c } }

/-- A containment request is taken, by the bridge state (R136). -/
def State.takeContainment (s : State) (r : ContainRequest) : State :=
  match s.bridge.state with
  | .standby => s
  | .contain => s.laterCause r.cause
  | .format => s.enterContain r
  | .online => s.enterContain r
  | .degraded => s.enterContain r

/-- CONTAINMENT_REQUEST (R136): the oldest request of the block. With none handed, nothing happens
(notes/assumptions/7.md). -/
def execContainmentRequest (block : RequestingBlock) (s : State) : Host.Outcome State Fault Refusal := s.unlessHeld <|
  match block with
  | .memoryPort =>
    match s.bridge.fromMemory with
    | [] => .next s
    | r :: rest => .next ((s.setBridge { s.bridge with fromMemory := rest }).takeContainment r)
  | .requestHandler =>
    match s.bridge.fromHandler with
    | [] => .next s
    | r :: rest => .next ((s.setBridge { s.bridge with fromHandler := rest }).takeContainment r)

/-- FORCE_CONTAIN (R141). -/
def execForceContain (s : State) : Host.Outcome State Fault Refusal := s.unlessHeld <|
  match s.bridge.state with
  | .standby => .next (s.reply .badState [])
  | .contain => .next ((s.laterCause .forced).reply .already [])
  | .format => .next ((s.enterContain ⟨.forced, none⟩).reply .done [])
  | .online => .next ((s.enterContain ⟨.forced, none⟩).reply .done [])
  | .degraded => .next ((s.enterContain ⟨.forced, none⟩).reply .done [])

/-- The fields of the Containment Record in the result of CONTAIN_READ (R190). -/
def recordBytes : Option ContainRecord → List Byte
  | none => [0x00] ++ absent 13
  | some r =>
    [(if r.valid then 0x02 else 0x01), r.cause.code] ++ leOpt 4 r.line ++ historyBytes r.history ++ le 2 r.pass.toNat ++
      [byte r.laterCount, (match r.latestLater with | some c => c.code | none => 0xFF)]

/-- CONTAIN_READ (R140, R174, R190). -/
def execContainRead (clear : Byte) (s : State) : Host.Outcome State Fault Refusal := s.unlessHeld <|
  let bytes := recordBytes s.bridge.record ++ historyBytes s.bridge.history
  if clear = 0x00 then .next (s.reply .done bytes)
  else if clear = 0x01 then
    .next ((s.setBridge
      { s.bridge with record := s.bridge.record.map fun r => { r with valid := false } }).reply .done bytes)
  else .next (s.reply .badParam [])

/-! ### START -/

/-- DS_STUCK is raised when START is accepted with 28 tags or more in quarantine (R169). -/
def State.raiseStuck (s : State) : State :=
  if 28 ≤ s.mem.quarantine.length then s.handFromMemory ⟨.dsStuck, none⟩ else s

/-- START with mode KEEP (R132). -/
def execStartKeep (s : State) : Host.Outcome State Fault Refusal := s.unlessHeld <|
  if s.bridge.state ≠ .standby then .next (s.reply .badState [])
  else .next ((s.changeBridge .online).raiseStuck.reply .done [])

/-- The blocks at entry into FORMAT: waiting holds are withdrawn, deferred requests end as TIMEOUT, and the format cursor has its
notice at once when the hold table is empty (R75, R133, R170, R184). DESIGN CHOICE, unsafe: where a spare test ends ABANDONED
here, its hold waiting or its request deferred, R132 and R146 leave Bridge Control's STATE_CHANGED and the engine's SPARE_TESTED
in either order; STATE_CHANGED is logged first (notes/assumptions/11.md). -/
def State.enterFormat (s : State) : State :=
  let t := s.changeBridge .format
  let t := (t.setBridge { t.bridge with cursor := some ⟨0, true⟩ }).raiseStuck
  let waiting := t.waitingOwners
  let deferred := t.mem.deferred.map (·.owner)
  let t := waiting.foldl State.withdrawn t.withdrawWaiting.clearDeferred
  (deferred.foldl (fun u o => u.tellOwner o .timeout) t).formatNotice

/-- START with mode FORMAT (R132). -/
def execStartFormat (s : State) : Host.Outcome State Fault Refusal := s.unlessHeld <|
  if s.bridge.state ≠ .standby then .next (s.reply .badState [])
  else .next (s.enterFormat.reply .accepted [])

/-! ### Resets -/

/-- Bridge Control at soft reset (R142): the format cursor and the requests not yet taken are gone. -/
def State.softResetBridge (s : State) : State :=
  let t := s.changeBridge .standby
  t.setBridge { t.bridge with cursor := none, fromMemory := [], fromHandler := [] }

/-- The spare under test returns to its state before the test, and the engine is IDLE with an empty queue (R58, R60). -/
def State.softResetEngine (s : State) : State :=
  let t := match s.engine with
    | .testing t => s.setSpare t.index t.before
    | _ => s
  (t.setEngine .idle).setQueue []

/-- Holds, host operations, link and Memory Port at soft reset (R76, R98, R163, R172). -/
def State.softResetPaths (s : State) : State :=
  (((s.setOrder { entries := [], nextArrival := 0, finished := 0 }).setOps []).setLink
    { quiesce := false, busy := [] }).setMem
    { active := [], quarantine := [], generation := s.mem.generation + 1, faults := 0, deferred := [] }

/-- REQUESTED entries return to WATCH, and what was handed and not yet taken is discarded (R113). -/
def State.softResetHealth (s : State) : State :=
  (s.setSuspects (s.suspects.map fun e => if e.status = .requested then { e with status := .watch } else e)).setInbox []

/-- The patrol at soft reset (R129). -/
def State.softResetPatrol (s : State) : State :=
  s.setPatrol { s.patrol with running := false, timer := .stopped, due := false, visit := none }

/-- The staging pair at soft reset (R179). -/
def State.softResetDiag (s : State) : State :=
  if s.diagBusy then s.setMgmt { s.mgmt with diag := none, fill := { s.mgmt.fill with valid := false } } else s

/-- The soft reset (R142). -/
def State.softReset (s : State) : State :=
  s.softResetBridge.softResetEngine.softResetPaths.softResetHealth.softResetPatrol.softResetDiag

/-- SOFT_RESET (R142). -/
def execSoftReset (s : State) : Host.Outcome State Fault Refusal :=
  s.unlessHeld (.next (s.softReset.reply .done []))

/-- The bus address of the straps: 2Ch + 2 × ADDR1 + ADDR0 (R173). -/
def strapAddress (x : Straps) : BitVec 7 := BitVec.ofNat 7 (0x2C + 2 * x.addr1.toNat + x.addr0.toNat)

/-- RESET_N goes low: the part is held in hard reset and releases ALERT_N (R185). Nothing else can be seen until the line rises
(notes/assumptions/15.md). -/
def State.holdInReset (s : State) : State := (s.setEv { s.ev with alertLow := false }).setResetLow true

/-- Hard reset ends: every block takes its after-hard-reset values, and the straps are read (R143, R173, R185). The queue of
commands and the index of the next free value are the model's own and are kept. -/
def State.endReset (s : State) (straps : Straps) : State :=
  let r := State.reset
  ((r.setMgmt { r.mgmt with address := strapAddress straps }).setPending s.pending).setFree s.free

/-- HARD_RESET (R143, R173, R185): the fall of RESET_N, or its rise. It is the one happening that is taken while RESET_N is
low. -/
def execHardReset (edge : ResetEdge) (straps : Straps) (s : State) : Host.Outcome State Fault Refusal :=
  match edge with
  | .fall => .next s.holdInReset
  | .rise => .next (s.endReset straps)

end Sys2Proof.Machine
end

