-- ==== Sys2Proof/Machine/Events.lean ====
section
/-! DEFINITION. The commands of the Event Unit (spec file 09): EVENT_PEEK, EVENT_POP, COUNTERS_READ, COUNTERS_CLEAR. -/

namespace Sys2Proof.Machine

/-- EVENT_PEEK (R148). -/
def execEventPeek (s : State) : Host.Outcome State Fault Refusal := s.unlessHeld <|
  match s.ev.queue with
  | [] => .next (s.reply .empty [0x00])
  | r :: _ => .next (s.reply .done (eventBytes r s.ev.queue.length s.ev.lost))

/-- The Event Unit after a pop that leaves `rest` (R149): a LOST record is appended when events were lost. -/
def EventUnit.popped (u : EventUnit) (pass : BitVec 16) (rest : List EventRecord) : EventUnit :=
  if u.lost = 0 then { u with queue := rest }
  else { u with queue := rest ++ [⟨u.nextSeq, pass, .lost u.lost⟩], nextSeq := u.nextSeq + 1, lost := 0 }

/-- EVENT_POP (R149), with ALERT_N re-evaluated (R150). -/
def execEventPop (s : State) : Host.Outcome State Fault Refusal := s.unlessHeld <|
  match s.ev.queue with
  | [] => .next (s.reply .empty [0x00])
  | r :: rest =>
    let t := (s.setEv (s.ev.popped s.patrol.pass rest)).refreshAlert
    .next (t.reply .done (eventBytes r t.ev.queue.length t.ev.lost))

/-- The twelve counters in the order of R151. -/
def countersBytes (k : Counters) : List Byte :=
  le 4 k.hostReads ++ le 4 k.hostWrites ++ le 4 k.hostPartials ++ le 4 k.respCorrected ++ le 4 k.respPoisoned ++
    le 4 k.ueFinal ++ le 4 k.transients ++ le 4 k.retryReads ++ le 4 k.dsTimeouts ++ le 4 k.lateAnswers ++
    le 4 k.tagClashes ++ le 4 k.discarded

/-- COUNTERS_READ (R152). -/
def execCountersRead (s : State) : Host.Outcome State Fault Refusal := s.unlessHeld <|
  .next (s.reply .done (countersBytes s.ev.counters))

/-- COUNTERS_CLEAR (R152). -/
def execCountersClear (s : State) : Host.Outcome State Fault Refusal := s.unlessHeld <|
  .next ((s.count fun _ => Counters.zero).reply .done (countersBytes s.ev.counters))

end Sys2Proof.Machine
end

