-- ==== Sys2Proof/Machine/Health.lean ====
section
/-! DEFINITION. The Health Tracker (spec file 06): taking reports and notices, and the commands of the Suspect Table. -/

namespace Sys2Proof.Machine

/-! ### Entries -/

/-- A new entry (R102). -/
def newSuspect (q : Nat) (pass : BitVec 16) : Suspect :=
  { region := q, count := 0, lastSymbol := none, spread := false, ue := false, touched := pass, status := .watch }

/-- The number of a waiting pass-end notice. -/
def Handed.passEnd? : Handed → Option (BitVec 16)
  | .passEnd n => some n
  | _ => none

/-- The pass number a report taken now touches its entry with. R102 and R104 name the patrol's current pass number; R110 says
that a report taken before the pass-end notice touches its entry in the ending pass, although the patrol's number has already
advanced at the pass end (R125). DEDUCED, unsafe: the model follows R110, the ending pass being that of the oldest notice that
waits (notes/assumptions/29.md). -/
def State.touchPass (s : State) : BitVec 16 :=
  match s.inbox.findSome? Handed.passEnd? with
  | some n => n
  | none => s.patrol.pass

/-- A report updates its entry (R104). -/
def Suspect.report (e : Suspect) (k : ReportKind) (pass : BitVec 16) : Suspect :=
  match k with
  | .corrected sym =>
    { e with
      count := satSucc 255 e.count
      spread := e.spread || (match e.lastSymbol with | some l => l ≠ sym | none => false)
      lastSymbol := some sym
      touched := pass }
  | .transient => { e with count := satSucc 255 e.count, touched := pass }
  | .uncorrectable => { e with ue := true }

/-- The effective threshold (R105). -/
def effectiveThreshold (ceThreshold : Nat) (spread : Bool) : Nat :=
  if spread then max 1 (ceThreshold / 2) else ceThreshold

/-- The trigger fires (R105). -/
def Suspect.fires (e : Suspect) (ceThreshold : Nat) : Bool :=
  e.status = .watch && (effectiveThreshold ceThreshold e.spread ≤ e.count || e.ue)

/-- A candidate for eviction (R103). -/
def Suspect.candidate (e : Suspect) : Bool := e.status ≠ .requested

/-- The age of an entry: passes since it was last touched, modulo 65536 (R103). -/
def Suspect.age (e : Suspect) (pass : BitVec 16) : Nat := (pass - e.touched).toNat

/-- `e` is to be evicted rather than `best`, which stands at a lower position (R103). -/
def Suspect.evictedBefore (pass : BitVec 16) (e best : Suspect) : Bool :=
  e.count < best.count || (e.count = best.count && best.age pass < e.age pass)

/-- The candidate R103 chooses: lowest count, then oldest, then lowest position. -/
def evictionChoice (pass : BitVec 16) : List Suspect → Option Suspect
  | [] => none
  | e :: es =>
    match evictionChoice pass es with
    | none => if e.candidate then some e else none
    | some b => if e.candidate && !b.evictedBefore pass e then some e else some b

/-- The entry for a physical region. -/
def State.suspectOf (s : State) (q : Nat) : Option Suspect := s.suspects.find? fun e => e.region = q

/-- Replace the entry of its region. -/
def State.putSuspect (s : State) (e : Suspect) : State :=
  s.setSuspects (s.suspects.map fun x => if x.region = e.region then e else x)

/-- Remove the entry of a region; later entries move down (R99). -/
def State.removeSuspect (s : State) (q : Nat) : State := s.setSuspects (s.suspects.filter fun e => e.region ≠ q)

/-! ### Taking a report -/

/-- A firing entry with AUTO_RETIRE on submits a request (R106). -/
def State.submitFor (s : State) (e : Suspect) (r : Request) : State :=
  match s.submission r.region with
  | .accepted => (s.submit r).putSuspect { e with status := .requested }
  | .duplicate => s.putSuspect { e with status := .requested }
  | .full => s.logEvent (.retireRefused r.region)

/-- A firing entry (R106, R107). -/
def State.fire (s : State) (e : Suspect) : State :=
  if s.mgmt.params.autoRetire then
    match s.relation e.region with
    | .unmapped r => s.submitFor e ⟨r, .retire, .health⟩
    | .inService r => s.submitFor e ⟨r, .replace, .health⟩
    | .inCopy _ _ => s
    | .retired _ => s
    | .unused => s
  else (s.logEvent (.suspectThreshold e.region e.count)).putSuspect { e with status := .notified }

/-- After its update: a STRANDED entry returns to WATCH while a spare is FREE (R108). -/
def State.unstrand (s : State) (e : Suspect) : Suspect :=
  if e.status = .stranded && s.freeSpare?.isSome then { e with status := .watch } else e

/-- A report updates the entry of its region, which the table holds, and the trigger is evaluated (R104, R105, R108). The
entry is touched in the pass of `State.touchPass` (R110, notes/assumptions/29.md). -/
def State.updateSuspect (s : State) (e : Suspect) (k : ReportKind) : State :=
  let e' := s.unstrand (e.report k s.touchPass)
  let t := s.putSuspect e'
  if e'.fires s.mgmt.params.ceThreshold then t.fire e' else t

/-- Append a new entry and update it (R102), touched in the pass of `State.touchPass` (notes/assumptions/29.md). -/
def State.createSuspect (s : State) (q : Nat) (k : ReportKind) : State :=
  let e := newSuspect q s.touchPass
  (s.setSuspects (s.suspects ++ [e])).updateSuspect e k

/-- A report for a region that has no entry (R102, R103). -/
def State.newReport (s : State) (q : Nat) (k : ReportKind) : State :=
  if s.suspects.length < 32 then s.createSuspect q k
  else match evictionChoice s.patrol.pass s.suspects with
    | some b => ((s.removeSuspect b.region).logEvent (.suspectEvicted b.region b.count)).createSuspect q k
    | none => s.logEvent (.suspectEvicted q 0)

/-- The CORRECTED event of a report, with EVENT_CORRECTED on (R102). -/
def State.correctedEvent (s : State) (r : Report) : State :=
  match r.kind with
  | .corrected sym => if s.mgmt.params.eventCorrected then s.logEvent (.corrected r.line sym r.origin) else s
  | .transient => s
  | .uncorrectable => s

/-- The relation at the taking discards the report (R101). -/
def Relation.discards : Relation → Bool
  | .inCopy _ source => source
  | .retired _ => true
  | .unused => true
  | .unmapped _ => false
  | .inService _ => false

/-- The Health Tracker takes a report (R101 to R108). DEDUCED, unsafe: R109 says of a report for the job's source that is taken
before the removal notice that it updates the entry; by R101's table it is discarded at either taking, its region being
IN_COPY as source, RETIRED or UNUSED, and R106 calls those relations not reached. The model follows R101
(notes/assumptions/28.md); either way the notice leaves no entry for the source. -/
def State.takeReport (s : State) (r : Report) : State :=
  let q := regionOf r.line
  if (s.relation q).discards then s
  else
    let t := s.correctedEvent r
    match t.suspectOf q with
    | some e => t.updateSuspect e r.kind
    | none => t.newReport q r.kind

/-! ### The order of taking -/

/-- The happening is a report. -/
def Handed.isReport : Handed → Bool
  | .report _ => true
  | _ => false

/-- The item was handed by the Patrol Scrubber. -/
def Handed.fromPatrol : Handed → Bool
  | .report r => r.origin = .patrol
  | .passEnd _ => true
  | _ => false

/-- The item was handed by the Repair Engine. -/
def Handed.fromEngine : Handed → Bool
  | .stranded _ => true
  | .removal _ => true
  | _ => false

/-- The item is a pass-end notice. -/
def Handed.isPassEnd : Handed → Bool
  | .passEnd _ => true
  | _ => false

/-- Take the first item that satisfies `want`, with the items before it and after it. -/
def takeFirst (want : Handed → Bool) : List Handed → Option (List Handed × Handed × List Handed)
  | [] => none
  | x :: xs => if want x then some ([], x, xs) else (takeFirst want xs).map fun r => (x :: r.1, r.2.1, r.2.2)

/-- Nine entries are REQUESTED while a notice of the engine, which would end one of them, waits to be taken. R99 bounds the
REQUESTED entries at nine, one for each queued request and one for the current job; between the end of a job and the taking of
its notice the entry of that job is still REQUESTED. DEDUCED, safe: no report is taken until that notice is
(notes/assumptions/30.md). -/
def State.awaitsNotice (s : State) : Bool :=
  9 ≤ s.suspects.countP (fun e => e.status = .requested) && s.inbox.any Handed.fromEngine

/-- REPORT_TAKEN (R101): the oldest handed report, unless a pass-end notice that the same reporter handed before it waits
(R125) or R99's bound has the engine's notice taken first. With nothing to take, nothing happens
(notes/assumptions/7.md). -/
def execReportTaken (s : State) : Host.Outcome State Fault Refusal := s.unlessHeld <|
  match takeFirst Handed.isReport s.inbox with
  | some (before, .report r, after) =>
    if r.origin = .patrol && before.any Handed.isPassEnd || s.awaitsNotice then .next s
    else .next ((s.setInbox (before ++ after)).takeReport r)
  | _ => .next s

/-- An entry as the pass-end notice of pass `n` leaves it (R110). -/
def Suspect.decay (n : BitVec 16) (e : Suspect) : Suspect :=
  if (e.status = .watch || e.status = .notified) && e.touched ≠ n then { e with count := e.count / 2 } else e

/-- The entry is removed by decay (R110). -/
def Suspect.decayed (e : Suspect) : Bool :=
  (e.status = .watch || e.status = .notified) && e.count = 0 && !e.ue

/-- PASS_END_NOTICE (R110): the oldest pass-end notice, unless a report that the patrol handed before it waits (R125). -/
def execPassEndNotice (s : State) : Host.Outcome State Fault Refusal := s.unlessHeld <|
  match takeFirst Handed.isPassEnd s.inbox with
  | some (before, .passEnd n, after) =>
    if before.any Handed.fromPatrol then .next s
    else
      .next ((s.setInbox (before ++ after)).setSuspects
        ((s.suspects.map (Suspect.decay n)).filter fun e => !e.decayed))
  | _ => .next s

/-- STRANDED_NOTICE (R108): taken when it is the engine's oldest notice. DEDUCED, unsafe: R100's table lets a NOTIFIED entry be
left by removal alone and R107 lets it raise nothing further while it exists; R108 makes it STRANDED, from which it can return
to WATCH and fire again. The model follows R108 (notes/assumptions/35.md). -/
def execStrandedNotice (s : State) : Host.Outcome State Fault Refusal := s.unlessHeld <|
  match takeFirst Handed.fromEngine s.inbox with
  | some (before, .stranded q, after) =>
    .next ((s.setInbox (before ++ after)).setSuspects
      (s.suspects.map fun e => if e.region = q then { e with status := .stranded } else e))
  | _ => .next s

/-- REMOVAL_NOTICE (R109): taken when it is the engine's oldest notice. -/
def execRemovalNotice (s : State) : Host.Outcome State Fault Refusal := s.unlessHeld <|
  match takeFirst Handed.fromEngine s.inbox with
  | some (before, .removal q, after) => .next ((s.setInbox (before ++ after)).removeSuspect q)
  | _ => .next s

/-! ### Commands -/

/-- The suspect entry result (R189). -/
def suspectBytes (count : Nat) (e : Suspect) : List Byte :=
  [byte count] ++ le 4 e.region ++ [byte e.count] ++ leOpt 1 e.lastSymbol ++ [flagByte e.spread, flagByte e.ue] ++
    le 2 e.touched.toNat ++ [e.status.code]

/-- SUSPECT_READ (R111). -/
def execSuspectRead (position : Byte) (s : State) : Host.Outcome State Fault Refusal := s.unlessHeld <|
  if 31 < position.toNat then .next (s.reply .range [])
  else match s.suspects[position.toNat]? with
    | some e => .next (s.reply .done (suspectBytes s.suspects.length e))
    | none => .next (s.reply .notFound [byte s.suspects.length])

/-- SUSPECT_CLEAR (R112, R174). -/
def execSuspectClear (selector : Byte) (region : BitVec 32) (s : State) : Host.Outcome State Fault Refusal :=
  s.unlessHeld <|
  if selector = 0x00 then
    if s.P ≤ region.toNat then .next (s.reply .range [])
    else match s.suspectOf region.toNat with
      | none => .next (s.reply .notFound [])
      | some e =>
        if e.status = .requested then .next (s.reply .badState [])
        else .next ((s.removeSuspect region.toNat).reply .done [])
  else if selector = 0x01 then
    if s.suspects.any fun e => e.status = .requested then .next (s.reply .badState [])
    else .next ((s.setSuspects []).reply .done [byte s.suspects.length])
  else .next (s.reply .badParam [])

end Sys2Proof.Machine
end

