-- ==== Sys2Proof/Machine/RepairMap.lean ====
section
/-! DEFINITION. The map commands (spec file 02, R28 to R30). -/

namespace Sys2Proof.Machine

/-- The position of a host region's entry. -/
def positionOf (map : List MapEntry) (region : Nat) : Nat := map.findIdx fun e => e.region = region

/-- The entry MAP_LOAD inserts (R28). -/
def loadedEntry (region spare : Nat) : MapEntry :=
  { region, spare, state := .live, poisoned := 0, origin := .loaded, replacements := 0 }

/-- The effect of an accepted MAP_LOAD on map and pool (R28, R33). -/
def State.loadMap (s : State) (region spare : Nat) : State :=
  (s.setMap (insertEntry (loadedEntry region spare) s.map)).setSpare spare .inUse

/-- MAP_LOAD (R28). -/
def execMapLoad (region : BitVec 32) (spare : Byte) (s : State) : Host.Outcome State Fault Refusal := s.unlessHeld <|
  let r := region.toNat
  let i := spare.toNat
  if s.bridge.state ≠ .standby then .next (s.reply .badState [])
  else if s.V ≤ r ∨ s.S ≤ i then .next (s.reply .range [])
  else if (findEntry s.map r).isSome then .next (s.reply .duplicate [])
  else if s.spare? i ≠ some .free then .next (s.reply .badState [])
  else
    let t := s.loadMap r i
    .next (t.reply .done ([byte (positionOf t.map r)] ++ le 2 t.map.length))

/-- MAP_READ (R29). -/
def execMapRead (position : Byte) (s : State) : Host.Outcome State Fault Refusal := s.unlessHeld <|
  match s.map[position.toNat]? with
  | some e => .next (s.reply .done (mapEntryBytes s.map.length position.toNat e))
  | none => .next (s.reply .notFound (le 2 s.map.length))

/-- MAP_FIND (R30). -/
def execMapFind (region : BitVec 32) (s : State) : Host.Outcome State Fault Refusal := s.unlessHeld <|
  match findEntry s.map region.toNat with
  | some e => .next (s.reply .done (mapEntryBytes s.map.length (positionOf s.map region.toNat) e))
  | none => .next (s.reply .notFound [])

end Sys2Proof.Machine
end

