-- ==== Sys2Proof/Machine/Dispatch.lean ====
section
/-! DEFINITION. One arm per command, in the order of spec/opcode_table.json. -/

namespace Sys2Proof.Machine

def exec (i : Instr) (s : State) : Host.Outcome State Fault Refusal :=
  match i with
  | .hardReset edge straps => Sys2Proof.Machine.execHardReset edge straps s
  | .linkReset pulseNs => Sys2Proof.Machine.execLinkReset pulseNs s
  | .rd tag line => Sys2Proof.Machine.execRd tag line s
  | .wr tag line data => Sys2Proof.Machine.execWr tag line data s
  | .wrp tag line data mask => Sys2Proof.Machine.execWrp tag line data mask s
  | .malformed kind => Sys2Proof.Machine.execMalformed kind s
  | .readData gen tag symbols => Sys2Proof.Machine.execReadData gen tag symbols s
  | .writeAck gen tag => Sys2Proof.Machine.execWriteAck gen tag s
  | .memoryTimeout tag => Sys2Proof.Machine.execMemoryTimeout tag s
  | .intervalTimerRunOut => Sys2Proof.Machine.execIntervalTimerRunOut s
  | .reportTaken => Sys2Proof.Machine.execReportTaken s
  | .passEndNotice => Sys2Proof.Machine.execPassEndNotice s
  | .strandedNotice => Sys2Proof.Machine.execStrandedNotice s
  | .removalNotice => Sys2Proof.Machine.execRemovalNotice s
  | .containmentRequest block => Sys2Proof.Machine.execContainmentRequest block s
  | .jobStart => Sys2Proof.Machine.execJobStart s
  | .frameRejected frame => Sys2Proof.Machine.execFrameRejected frame s
  | .identify => Sys2Proof.Machine.execIdentify s
  | .status => Sys2Proof.Machine.execStatus s
  | .configGet id => Sys2Proof.Machine.execConfigGet id s
  | .configSet id value => Sys2Proof.Machine.execConfigSet id value s
  | .startKeep => Sys2Proof.Machine.execStartKeep s
  | .startFormat => Sys2Proof.Machine.execStartFormat s
  | .softReset => Sys2Proof.Machine.execSoftReset s
  | .forceContain => Sys2Proof.Machine.execForceContain s
  | .containRead clear => Sys2Proof.Machine.execContainRead clear s
  | .mapLoad region spare => Sys2Proof.Machine.execMapLoad region spare s
  | .mapRead position => Sys2Proof.Machine.execMapRead position s
  | .mapFind region => Sys2Proof.Machine.execMapFind region s
  | .spareRead spare => Sys2Proof.Machine.execSpareRead spare s
  | .spareMarkBad spare => Sys2Proof.Machine.execSpareMarkBad spare s
  | .spareTest spare => Sys2Proof.Machine.execSpareTest spare s
  | .retire region => Sys2Proof.Machine.execRetire region s
  | .queueRead => Sys2Proof.Machine.execQueueRead s
  | .resumeCopy => Sys2Proof.Machine.execResumeCopy s
  | .engineStatus => Sys2Proof.Machine.execEngineStatus s
  | .suspectRead position => Sys2Proof.Machine.execSuspectRead position s
  | .suspectClear selector region => Sys2Proof.Machine.execSuspectClear selector region s
  | .patrolStart => Sys2Proof.Machine.execPatrolStart s
  | .patrolStop => Sys2Proof.Machine.execPatrolStop s
  | .patrolStatus => Sys2Proof.Machine.execPatrolStatus s
  | .summaryRead => Sys2Proof.Machine.execSummaryRead s
  | .summaryClear => Sys2Proof.Machine.execSummaryClear s
  | .eventPeek => Sys2Proof.Machine.execEventPeek s
  | .eventPop => Sys2Proof.Machine.execEventPop s
  | .countersRead => Sys2Proof.Machine.execCountersRead s
  | .countersClear => Sys2Proof.Machine.execCountersClear s
  | .diagFetch line => Sys2Proof.Machine.execDiagFetch line s
  | .diagSwap => Sys2Proof.Machine.execDiagSwap s
  | .diagRead offset length => Sys2Proof.Machine.execDiagRead offset length s
  | .diagStore line mode => Sys2Proof.Machine.execDiagStore line mode s

end Sys2Proof.Machine
end

