-- ==== Sys2Proof/Safety.lean ====
section
/-! DEFINITION. What the claims about the part are stated in: the laws of the device that chapters 1 to 12 give for every
moment, each as a predicate of one state, and the conditions on a state under which a command's effect can be written out
whole (a free tag, no hold waiting, a free key). -/

namespace Sys2Proof.Machine

/-! ### Laws of one state -/

/-- The range of R177 for each parameter, and S below P (R2). -/
def Params.law (c : Params) : Prop :=
  (64 ≤ c.memRegions ∧ c.memRegions ≤ 4194304) ∧ (c.spareCount ≤ 256 ∧ c.spareCount < c.memRegions) ∧
    (1 ≤ c.ceThreshold ∧ c.ceThreshold ≤ 255) ∧ c.readRetries ≤ 3 ∧ (1 ≤ c.dsTimeoutUs ∧ c.dsTimeoutUs ≤ 255) ∧
    (1 ≤ c.dsFaultLimit ∧ c.dsFaultLimit ≤ 15) ∧ (1 ≤ c.patrolIntervalUs ∧ c.patrolIntervalUs ≤ 65535) ∧
    (1 ≤ c.alertLevel ∧ c.alertLevel ≤ 64)

/-- The history holds at most four states (R131), the record's counts stay in range (R140), and the format cursor exists in
FORMAT alone and names a line of the array (R133). -/
def Bridge.law (b : Bridge) (P : Nat) : Prop :=
  b.history.length ≤ 4 ∧ (∀ r ∈ b.record, r.history.length ≤ 4 ∧ r.laterCount ≤ 255) ∧
    (b.cursor.isSome ↔ b.state = .format) ∧ ∀ k ∈ b.cursor, k.line < P * 64

/-- The position is a host line, and the lines checked and skipped in the pass in progress are the lines before it
(R114, R124). -/
def Patrol.law (p : Patrol) (V : Nat) : Prop :=
  p.position < V * 64 ∧ p.counts.checked + p.counts.skipped = p.position

/-- Parameters, Bridge Control and patrol position (R114, R124, R131, R133, R177). -/
def ControlLaw (s : State) : Prop := s.mgmt.params.law ∧ s.bridge.law s.P ∧ s.patrol.law s.V

/-- The Event Queue (R144): at most 64 records, numbered consecutively up to the next sequence number; the lost count is
nonzero only with 64 records, and is at most 65535. -/
def EventUnit.law (u : EventUnit) : Prop :=
  u.queue.length ≤ 64 ∧
    (∀ i : Fin u.queue.length, u.queue[i].seq + BitVec.ofNat 16 (u.queue.length - i) = u.nextSeq) ∧
    (u.lost ≠ 0 → u.queue.length = 64) ∧ u.lost ≤ 65535

/-- ALERT_N is low exactly while the fill is at least ALERT_LEVEL or the bridge is in CONTAIN (R150), and RESET_N is high
(R185). -/
def AlertLaw (s : State) : Prop :=
  s.ev.alertLow = true ↔
    s.resetLow = false ∧ (s.mgmt.params.alertLevel ≤ s.ev.queue.length ∨ s.bridge.state = .contain)

/-- For every key at most one hold is ACTIVE (R65). -/
def HoldLaw (s : State) : Prop :=
  ∀ e ∈ s.order.entries, s.order.entries.countP (fun x => x.active && x.key = e.key) ≤ 1

/-- No tag stands for two operations: the tags of active operations and of the quarantine set are distinct, and every active
operation is of the current generation (R165, R168). -/
def TagLaw (s : State) : Prop :=
  (s.mem.active.map (·.tag) ++ s.mem.quarantine).Nodup ∧ ∀ a ∈ s.mem.active, a.gen = s.mem.generation

/-- The Suspect Table (R99): at most 32 entries, for distinct physical regions, with counts of at most 255. -/
def SuspectLaw (s : State) : Prop :=
  s.suspects.length ≤ 32 ∧ (s.suspects.map (·.region)).Nodup ∧ ∀ e ∈ s.suspects, e.count ≤ 255

/-- The old spare that the COPYING REPLACE entry names as its source, as a spare index (R16, R17). -/
def MapEntry.oldSpare? (V : Nat) (e : MapEntry) : Option Nat :=
  match e.state with
  | .copying .replace q _ => some (q - V)
  | .copying .retire _ _ => none
  | .live => none

/-- The spare indices that the map names, as spare or as source (R16, R33). -/
def namedSpares (V : Nat) (map : List MapEntry) : List Nat := map.map (·.spare) ++ map.filterMap (MapEntry.oldSpare? V)

/-- The fields of one entry are in range (R17, R18): the source of a RETIRE is the host region, that of a REPLACE a spare
region, and no more lines are poison-marked than were copied. -/
def MapEntry.law (V S : Nat) (e : MapEntry) : Prop :=
  e.region < V ∧ e.spare < S ∧ e.replacements ≤ 255 ∧
    match e.state with
    | .live => e.poisoned ≤ 64
    | .copying .retire q k => q = e.region ∧ k ≤ 63 ∧ e.poisoned ≤ k
    | .copying .replace q k => V ≤ q ∧ q < V + S ∧ k ≤ 63 ∧ e.poisoned ≤ k

/-- The Repair Map (R16 to R18): strictly ascending host regions, distinct spares, at most one COPYING entry. -/
def MapLaw (V S : Nat) (map : List MapEntry) : Prop :=
  map.Pairwise (fun a b => a.region < b.region) ∧ (∀ e ∈ map, e.law V S) ∧ (namedSpares V map).Nodup ∧
    map.countP MapEntry.isCopying ≤ 1

/-- The Spare Pool (R33): one record for each index below S, IN_USE exactly when the map names the spare, TESTING exactly
when the engine tests it. -/
def PoolLaw (s : State) : Prop :=
  s.spares.length = s.S ∧ (∀ i < s.S, s.spares[i]? = some .inUse ↔ i ∈ namedSpares s.V s.map) ∧
    ∀ i < s.S, s.spares[i]? = some .testing ↔ (match s.engine with | .testing t => t.index = i | _ => False)

/-- The Retirement Queue (R38): at most 8 requests, for distinct host regions below V, none of them the region of the COPYING
entry; a request is a REPLACE exactly when the map holds an entry for its region (R40, R106). -/
def QueueLaw (s : State) : Prop :=
  s.queue.length ≤ 8 ∧ (s.queue.map (·.region)).Nodup ∧
    ∀ q ∈ s.queue, q.region < s.V ∧ (∀ e ∈ s.map, e.isCopying = true → e.region ≠ q.region) ∧
      (q.kind = .replace ↔ ∃ e ∈ s.map, e.region = q.region)

/-- The current job record (R42): a copy job's is that of the COPYING entry; a test names a spare that was FREE or BAD, and
runs with no COPYING entry (R55). -/
def EngineLaw (s : State) : Prop :=
  let isJob (j : CopyJob) : Prop :=
    ∃ e ∈ s.map, e.region = j.region ∧ e.spare = j.spare ∧ e.state = .copying j.kind j.source j.cursor
  match s.engine with
  | .idle => True
  | .halted _ => True
  | .copying j => isJob j
  | .suspended j => isJob j
  | .testing t => t.index < s.S ∧ (t.before = .free ∨ t.before = .bad) ∧ ∀ e ∈ s.map, e.isCopying = false

/-- In STANDBY nothing is queued for the engine or the Health Tracker, and neither a host operation, nor a visit, nor a copy
job is under way (R60, R98, R113, R129, R142). -/
def StandbyLaw (s : State) : Prop :=
  s.bridge.state = .standby →
    s.queue = [] ∧ s.inbox = [] ∧ s.ops = [] ∧ s.patrol.visit = none ∧
      (match s.engine with | .idle => True | .testing _ => True | _ => False)

/-- Map, pool, queue and engine together. -/
def RepairLaw (s : State) : Prop :=
  MapLaw s.V s.S s.map ∧ PoolLaw s ∧ QueueLaw s ∧ EngineLaw s ∧ StandbyLaw s

/-- The physical region a request is for: the host region itself, or the spare that serves it (R45 to R47, R106). -/
def Request.source (V : Nat) (map : List MapEntry) (r : Request) : Nat :=
  match findEntry map r.region with
  | none => r.region
  | some e => V + e.spare

/-- What each REQUESTED entry of the Suspect Table stands for: a queued request, the job of the COPYING entry, or a job that has
ended or been refused and whose notice to the Health Tracker has not been taken yet (R99, R106, R108, R109). -/
def StandsFor (s : State) (q : Nat) : Prop :=
  (∃ r ∈ s.queue, r.source s.V s.map = q) ∨ (∃ e ∈ s.map, e.source? = some q) ∨
    Handed.stranded q ∈ s.inbox ∨ Handed.removal q ∈ s.inbox

/-- At most 9 entries are REQUESTED (R99), and each stands for something that is queued, running or about to be noticed. -/
def RequestedLaw (s : State) : Prop :=
  s.suspects.countP (fun e => e.status = .requested) ≤ 9 ∧
    ∀ e ∈ s.suspects, e.status = .requested → StandsFor s e.region

/-- The part of R155 that a response shows by itself: an RDR whose status is neither OK nor CORRECTED carries 64 zero bytes, and
a WRR never carries CORRECTED. It says nothing of the data under OK or CORRECTED. -/
def Response.law (r : Response) : Prop :=
  (r.status ≠ .ok → r.status ≠ .corrected → ∀ d ∈ r.data, d = Data.zero) ∧ (r.status = .corrected → r.data ≠ none)

/-- Every response sent keeps the law of R155. -/
def ResponseLaw (s : State) : Prop := ∀ r ∈ s.hostOut, r.law

/-- An MWR carries a valid or a poison-marked codeword (chapter 1, table of 1.6). -/
def MemKind.law : MemKind → Prop
  | .mrd => True
  | .mwr w => isValid w = true ∨ isPoisonMarked w = true

/-- Every memory write sent, and every one on the deferred list, carries a member of the code. -/
def CodewordLaw (s : State) : Prop := (∀ o ∈ s.memOut, o.kind.law) ∧ ∀ r ∈ s.mem.deferred, r.kind.law

/-! ### Conditions under which an effect is written out whole -/

/-- `t` is the lowest tag that is neither active nor quarantined (R165). -/
def MemPort.NextTag (m : MemPort) (t : Fin 64) : Prop := m.tagFree t = true ∧ ∀ u < t, m.tagFree u = false

/-- The Memory Port would issue at once, under tag `t` (R165, R170). -/
def State.CanIssue (s : State) (t : Fin 64) : Prop :=
  s.bridge.state ≠ .contain ∧ s.mem.quarantine.length < 28 ∧ s.mem.NextTag t

/-- Every hold of the table is ACTIVE: a release activates nothing. -/
def State.NoneWaits (s : State) : Prop := ∀ e ∈ s.order.entries, e.active = true

/-- The table holds no entry on the key. -/
def State.KeyFree (s : State) (k : Key) : Prop := ∀ e ∈ s.order.entries, e.key ≠ k

/-- The Host Link port would hand the request on (R157, row 7): RESET_N high, UP, the tag FREE with no operation under it, the
bridge ONLINE or DEGRADED, the line in range. -/
def State.Accepts (s : State) (tag : Fin 32) (h : Nat) : Prop :=
  s.resetLow = false ∧ s.link.quiesce = false ∧ tag ∉ s.link.busy ∧ (∀ o ∈ s.ops, o.tag ≠ tag) ∧
    (s.bridge.state = .online ∨ s.bridge.state = .degraded) ∧ h < s.V * 64

/-- The table with a hold of an owner on a key appended. -/
def LineOrder.append (l : LineOrder) (k : Key) (o : Owner) (active : Bool) : LineOrder :=
  { l with entries := l.entries ++ [⟨k, o, active, l.nextArrival, false⟩], nextArrival := l.nextArrival + 1 }

/-- The table without the hold of an owner. -/
def LineOrder.without (l : LineOrder) (o : Owner) : LineOrder :=
  { l with entries := l.entries.filter fun e => e.owner ≠ o }

/-- The state with a memory operation issued under tag `t` (R165): the table entry, its timer, and the operation sent. -/
def State.issued (s : State) (t : Fin 64) (o : Owner) (k : MemKind) (line : Nat) : State :=
  { s with
    mem := { s.mem with active := s.mem.active ++ [⟨t, k, line, o, s.mem.generation, s.mgmt.params.dsTimeoutUs⟩] }
    memOut := s.memOut ++ [⟨s.mem.generation, t, line, k⟩] }

/-- The state with a timely answer to tag `t` taken (R166): the tag is free and the consecutive-fault count is 0. -/
def State.answered (s : State) (t : Fin 64) : State :=
  { s with mem := { s.mem with active := s.mem.active.filter (fun a => a.tag ≠ t), faults := 0 } }

/-- RESET_N is high, and an operation of an owner awaits its answer under tag `t` in the current generation, with this kind and
line. -/
def State.Awaits (s : State) (t : Fin 64) (o : Owner) (k : MemKind) (line : Nat) : Prop :=
  s.resetLow = false ∧ ∃ us, s.activeOf t = some ⟨t, k, line, o, s.mem.generation, us⟩

/-- The operation of a host tag with its record deleted, its hold gone and its tag FREE (R80, R156). -/
def State.hostDone (s : State) (tag : Fin 32) : State :=
  { s with
    order := s.order.without (.host tag)
    ops := s.ops.filter fun o => o.tag ≠ tag
    link := { s.link with busy := s.link.busy.filter fun t => t ≠ tag } }

/-- A host operation's response has left with its data and the counter of R93; an orphan's does not leave (R80, R97). -/
def State.answeredTo (s : State) (op : HostOp) (st : RespStatus) (d : Data) : State :=
  if op.orphan then s
  else
    let t : State :=
      { s with hostOut := s.hostOut ++ [⟨op.tag, st, match op.req with | .rd => some d | .wr _ => none | .wrp _ _ => none⟩] }
    match st with
    | .corrected => t.count Counters.bumpRespCorrected
    | .poisoned => t.count Counters.bumpRespPoisoned
    | _ => t

/-- A host operation has ended: its record and hold are gone and its tag is FREE; an orphan is counted instead, and the last one
returns the port to UP and logs PORT_QUIESCED (R80, R97, R162). -/
def State.opEnded (s : State) (op : HostOp) : State :=
  if op.orphan then
    let t : State :=
      { s with
        order := { s.order.without (.host op.tag) with finished := s.order.finished + 1 }
        ops := s.ops.filter fun o => o.tag ≠ op.tag }
    if ∃ o ∈ t.ops, o.orphan = true then t
    else State.logEvent { t with link := { t.link with quiesce := false } } (.portQuiesced t.order.finished)
  else s.hostDone op.tag

/-- An operation under tag `t` has ended as TIMEOUT, its owner having acted (R167, R169): the tag is quarantined, the
consecutive-fault count rises, DS_TIMEOUT is logged and counted, and the containment requests are handed over, DS_FAULT_LIMIT
first. -/
def State.timedOut (s : State) (t : Fin 64) (k : MemKind) (line : Nat) (o : OwnerName) : State :=
  let faults := if s.mem.faults < 255 then s.mem.faults + 1 else s.mem.faults
  let counted :=
    (State.logEvent
      { s with
        mem :=
          { s.mem with
            active := s.mem.active.filter fun a => a.tag ≠ t, quarantine := s.mem.quarantine ++ [t], faults := faults } }
      (.dsTimeout line (match k with | .mrd => .mrd | .mwr _ => .mwr) o)).count Counters.bumpDsTimeouts
  { counted with
    bridge :=
      { s.bridge with
        fromMemory := s.bridge.fromMemory ++
          (if s.mgmt.params.dsFaultLimit ≤ faults then [⟨.dsFaultLimit, some line⟩] else []) ++
          (if s.mem.quarantine.length = 27 then [⟨.dsStuck, none⟩] else []) } }

/-- A visit short of the last line has released its hold and ended (R124). -/
def State.visitDone (s : State) (add : PassCounts → PassCounts) : State :=
  { s with
    order := s.order.without .patrol
    patrol := { s.patrol with visit := none, position := s.patrol.position + 1, counts := add s.patrol.counts } }

/-- The counts of a visit whose write followed this outcome (R124). -/
def Tally.counted (x : Tally) (k : PassCounts) : PassCounts :=
  match x with
  | .none => { k with checked := k.checked + 1 }
  | .corrected => { k with checked := k.checked + 1, corrected := k.corrected + 1 }
  | .uncorrectable => { k with checked := k.checked + 1, uncorrectable := k.uncorrectable + 1 }

/-- A spare test has ended with a result: its hold is gone, the spare is `after`, the record is made and SPARE_TESTED logged,
and the engine is IDLE (R57). -/
def State.testEnded (s : State) (i : Nat) (r : TestResult) (after : SpareState) : State :=
  State.logEvent
    { s with
      order := s.order.without .engine, spares := s.spares.set i after, lastTest := some (i, r), engine := .idle }
    (.spareTested i r)

/-- In FORMAT, with the hold table empty and nothing issued yet: the first write of the format cursor is asked for, under tag `t`
or, with 28 tags in quarantine, on the deferred list (R75, R133, R170). -/
def State.drained (s : State) (t : Fin 64) : State :=
  match s.bridge.cursor with
  | some ⟨n, true⟩ =>
    if s.order.entries = [] then
      let u : State := { s with bridge := { s.bridge with cursor := some ⟨n, false⟩ } }
      let zeros : MemKind := .mwr ⟨Vector.replicate 64 0, Vector.replicate 8 0⟩
      if 28 ≤ s.mem.quarantine.length then
        { u with mem := { u.mem with deferred := u.mem.deferred ++ [⟨.format, zeros, n⟩] } }
      else u.issued t .format zeros n
    else s
  | _ => s

/-- The command that presents a host request (R154). -/
def HostReq.command (tag : Fin 32) (line : BitVec 32) : HostReq → Instr
  | .rd => .rd tag line
  | .wr d => .wr tag line d
  | .wrp d m => .wrp tag line d m

/-- A response has left. -/
def State.responded (s : State) (tag : Fin 32) (st : RespStatus) (d : Option Data) : State :=
  { s with hostOut := s.hostOut ++ [⟨tag, st, d⟩] }

/-- The record of a host operation replaced. -/
def State.withOp (s : State) (op : HostOp) : State := { s with ops := s.ops.map fun o => if o.tag = op.tag then op else o }

/-- The request has become an operation: its tag is BUSY, its record is `op`, and its hold stands in the table (R79, R157). -/
def State.handed (s : State) (op : HostOp) (active : Bool) : State :=
  { s with
    link := { s.link with busy := s.link.busy ++ [op.tag] }
    ops := s.ops ++ [op]
    order := s.order.append (.host op.line) (.host op.tag) active
    ev := { s.ev with counters := op.req.counter s.ev.counters } }

/-- A host error report handed to the Health Tracker, unless the region is the source of the COPYING entry (R92). -/
def State.hostReported (s : State) (k : ReportKind) (p : Nat) : State :=
  if ∃ e ∈ s.map, e.source? = some (p / 64) then s else { s with inbox := s.inbox ++ [.report ⟨k, .host, p⟩] }

/-- A transient of a host operation recorded: report, event and counter (R84). -/
def State.hostTransientRecorded (s : State) (p reads : Nat) : State :=
  ((s.hostReported .transient p).logEvent (.transient p reads .host)).count Counters.bumpTransients

/-- A happening handed to the Health Tracker. -/
def State.handedOver (s : State) (x : Handed) : State := { s with inbox := s.inbox ++ [x] }

end Sys2Proof.Machine
end

