-- ==== Sys2Proof/WellFormed.lean ====
section
/-! DEFINITION. Which terms are commands of the part. Operand types already bound tags and field widths; two rows remain: a
MALFORMED message names none of the three request kinds (R158), and a rejected frame has at least one byte and runs no
command (R173, R174, R132). -/

namespace Sys2Proof

open Sys2Proof.Machine

/-- The frame runs no command: it fails a check of R174, or it is a START of another mode. -/
def rejectedFrame (frame : List Byte) : Bool := frame ≠ [] && ((frameFault frame).isSome || badStartMode frame)

/-- The term is a command of the part. -/
def Instr.wellFormed : Instr → Bool
  | .malformed kind => !isRequestKind kind
  | .frameRejected frame => rejectedFrame frame
  | .hardReset _ _ => true
  | .linkReset _ => true
  | .rd _ _ => true
  | .wr _ _ _ => true
  | .wrp _ _ _ _ => true
  | .readData _ _ _ => true
  | .writeAck _ _ => true
  | .memoryTimeout _ => true
  | .intervalTimerRunOut => true
  | .reportTaken => true
  | .passEndNotice => true
  | .strandedNotice => true
  | .removalNotice => true
  | .containmentRequest _ => true
  | .jobStart => true
  | .identify => true
  | .status => true
  | .configGet _ => true
  | .configSet _ _ => true
  | .startKeep => true
  | .startFormat => true
  | .softReset => true
  | .forceContain => true
  | .containRead _ => true
  | .mapLoad _ _ => true
  | .mapRead _ => true
  | .mapFind _ => true
  | .spareRead _ => true
  | .spareMarkBad _ => true
  | .spareTest _ => true
  | .retire _ => true
  | .queueRead => true
  | .resumeCopy => true
  | .engineStatus => true
  | .suspectRead _ => true
  | .suspectClear _ _ => true
  | .patrolStart => true
  | .patrolStop => true
  | .patrolStatus => true
  | .summaryRead => true
  | .summaryClear => true
  | .eventPeek => true
  | .eventPop => true
  | .countersRead => true
  | .countersClear => true
  | .diagFetch _ => true
  | .diagSwap => true
  | .diagRead _ _ => true
  | .diagStore _ _ => true

end Sys2Proof
end

