-- ==== Sys2Proof/Certificates/Slice0/Obligations.lean ====
section
/-! DEFINITION. The statements for the provers, one `def Obligations.<Name> : Prop` each. An effect is given as the whole next
state, so that it says what changes and that nothing else does. -/

open Sys2Proof Sys2Proof.Machine

/-! ### The step -/

/-- A step takes the command at the front of the queue and is `exec` of it on the state with the queue's rest. The queue is
the model's own (notes/assumptions/8.md). -/
def Obligations.StepRunsFrontCommand : Prop :=
  ∀ (c : Instr) (rest : List Instr) (s : State),
    s.pending = c :: rest → step s = exec c { s with pending := rest }

/-- Whole-machine rules on what only some commands change: the command queue (the model's own) by none; the level of RESET_N by
HARD_RESET alone (R185); the parameters by CONFIG_SET and the end of hard reset (R177, R178); the bus address by the end of hard
reset (R173); the reply buffer by frames and the end of hard reset (R175); VIEW by DIAG_SWAP and the end of hard reset (R179,
R182, R183); the generation by SOFT_RESET and the end of hard reset (R172). -/
def Obligations.OnlyTheirCommandsChange : Prop :=
  ∀ (c : Instr) (s t : State), exec c s = .next t →
    t.pending = s.pending ∧ ((∀ edge straps, c ≠ .hardReset edge straps) → t.resetLow = s.resetLow) ∧
    ((∀ straps, c ≠ .hardReset .rise straps) →
      t.mgmt.address = s.mgmt.address ∧
      ((∀ i v, c ≠ .configSet i v) → t.mgmt.params = s.mgmt.params) ∧
      (frameParts c = none → (∀ f, c ≠ .frameRejected f) → t.mgmt.reply = s.mgmt.reply) ∧
      (c ≠ .diagSwap → t.mgmt.view = s.mgmt.view) ∧
      (c ≠ .softReset → t.mem.generation = s.mem.generation))

/-! ### Frames (chapter 12) -/

/-- Decode and encode agree, on the bus too: the frame of every management command is a frame of at most 23 bytes whose bytes sum
to 0 modulo 256, and it presents that command, with every operand at every value (R174). A transaction runs from its start
condition to the stop, the repeated start or the bus error that ends it (R173; the byte a bus error cuts short is not part of
it: notes/assumptions/31.md; the place of the direction bit: notes/assumptions/32.md). At its own address alone the port takes a
write of at least one byte as one command frame, does nothing at a write of no byte, and returns to a read the reply frame
(R175) with FFh beyond its check byte; at any other address, and while RESET_N is low (notes/assumptions/15.md), it does not
acknowledge. -/
def Obligations.FrameRoundTrip : Prop :=
  (∀ c : Instr, (frameParts c).isSome = true →
    ∃ f, encodeFrame c = some f ∧ f.length ≤ 23 ∧ f.foldr (· + ·) 0 = 0 ∧ decodeFrame f = some c) ∧
  (∀ (a : BitVec 7) (read : Bool) (bytes : List Byte) (cut rest : List BusSignal), cut = [] ∨ cut = [.partByte] →
    let sent : List BusSignal := .start :: (addressByte a read :: bytes).map BusSignal.byte ++ cut
    transactions (sent ++ .stop :: rest) = ⟨a, read, bytes⟩ :: transactions rest ∧
    transactions (sent ++ .start :: rest) = ⟨a, read, bytes⟩ :: transactions (.start :: rest)) ∧
  (∀ (s : State) (a : BitVec 7) (read : Bool) (bytes : List Byte), s.resetLow = true ∨ a ≠ s.mgmt.address →
    s.busAnswer ⟨a, read, bytes⟩ = .notAcknowledged) ∧
  ∀ s : State, s.resetLow = false →
    let own (read : Bool) (bytes : List Byte) : BusAnswer := s.busAnswer ⟨s.mgmt.address, read, bytes⟩
    own false [] = .nothing ∧
    (∀ b bytes, ∃ c, decodeFrame (b :: bytes) = some c ∧ own false (b :: bytes) = .command c) ∧
    (∀ bytes, ∃ check, (([s.mgmt.reply.status.code, byte s.mgmt.reply.result.length] ++ s.mgmt.reply.result) ++
        [check]).foldr (· + ·) 0 = 0 ∧
      own true bytes = .returned
        ((([s.mgmt.reply.status.code, byte s.mgmt.reply.result.length] ++ s.mgmt.reply.result) ++ [check] ++
          List.replicate bytes.length 0xFF).take bytes.length)) ∧
    ∀ signals, s.takeSignals signals =
      { s with
        pending := s.pending ++ (transactions signals).filterMap fun x =>
          if x.address = s.mgmt.address ∧ x.read = false then decodeFrame x.bytes else none }

/-- FRAME_REJECTED: the first check of R174 that a frame fails gives the reply, and nothing else changes. A START of another
mode is answered by the bridge state first (R132). -/
def Obligations.RejectedFrameReplies : Prop :=
  ∀ (code n : Byte) (rest : List Byte) (s : State), s.resetLow = false →
    let frame := code :: n :: rest
    (rest.length ≠ n.toNat + 1 ∨ 20 < n.toNat ∨ frame.foldr (· + ·) 0 ≠ 0 →
      exec (.frameRejected frame) s = .next (s.reply .badFrame [])) ∧
    (rest.length = n.toNat + 1 → n.toNat ≤ 20 → frame.foldr (· + ·) 0 = 0 →
      (paramBytes code = none → exec (.frameRejected frame) s = .next (s.reply .unknown [])) ∧
      (∀ k, paramBytes code = some k → k ≠ n.toNat →
        exec (.frameRejected frame) s = .next (s.reply .badParam [])) ∧
      (∀ mode chk, code = 0x10 → n = 1 → rest = [mode, chk] → mode ≠ 0x00 → mode ≠ 0x01 →
        exec (.frameRejected frame) s =
          .next (s.reply (if s.bridge.state = .standby then .badParam else .badState) []))) ∧
    exec (.frameRejected [code]) s = .next (s.reply .badFrame [])

/-! ### The code (chapter 1) -/

/-- R12: what classification guarantees for a line written valid or poison-marked, by the number of symbols altered since. For
three or more altered symbols any outcome may come. -/
def Obligations.CodewordGuarantee : Prop :=
  ∀ (d : Data) (w : Codeword),
    ((encode d).dist w = 0 → classify w = .clean d) ∧
    ((encode d).dist w = 1 → ∃ k < 72, symbolAt w k ≠ symbolAt (encode d) k ∧ classify w = .corrected k (encode d)) ∧
    ((encode d).dist w = 2 → classify w = .uncorrectable) ∧
    ((poisonMark d).dist w = 0 → classify w = .poison) ∧
    ((poisonMark d).dist w = 1 → classify w = .poison) ∧
    ((poisonMark d).dist w = 2 → classify w = .uncorrectable)

/-- R8 with its three consequences, for the codewords the part forms. -/
def Obligations.CodeDistance : Prop :=
  let member (w : Codeword) : Prop := (∃ d, w = encode d) ∨ ∃ d, w = poisonMark d
  (∀ a b : Codeword, member a → member b → a ≠ b → 4 ≤ a.dist b) ∧
    (∀ w a b : Codeword, member a → member b → a ≠ b → w.dist a ≤ 1 → 3 ≤ w.dist b) ∧
    (∀ w a b : Codeword, member a → member b → w.dist a = 2 → 2 ≤ w.dist b) ∧
    (∀ d d', encode d = encode d' → d = d') ∧ ∀ d d', encode d ≠ poisonMark d'

/-- R9 and R10: the four outcomes by the distances to the valid and the poison-marked codewords, and what each yields. -/
def Obligations.ClassificationTable : Prop :=
  ∀ w : Codeword,
    (∀ d, classify w = .clean d ↔ w = encode d) ∧
    (∀ k v, classify w = .corrected k v ↔
      k < 72 ∧ (∃ d, v = encode d) ∧ w.dist v = 1 ∧ symbolAt w k ≠ symbolAt v k) ∧
    (classify w = .poison ↔ ∃ d, w.dist (poisonMark d) ≤ 1) ∧
    (classify w = .uncorrectable ↔ ∀ d, 1 < w.dist (encode d) ∧ 1 < w.dist (poisonMark d))

/-! ### The map and translation (chapter 2) -/

/-- R22 is the inverse of R19: under the law of the map, host line h is given physical line p exactly when p serves h. -/
def Obligations.ServedByInvertsTranslation : Prop :=
  ∀ (V S : Nat) (map : List MapEntry) (h p : Nat),
    MapLaw V S map → h < V * 64 → p < (V + S) * 64 →
      (translate V map h = p ↔ servedBy V map p = some h)

/-- The effect of each map change of R24 to R26 and R28 on the physical line that serves each host line, on a map that keeps its
law: insertion and conversion move none, the advance from n to n + 1 moves line n, MAP_LOAD moves its region, and the
completion at cursor 63 moves line 63 (R26; the table of R21 names no line there: notes/assumptions/24.md). -/
def Obligations.MapChangesKeepTranslation : Prop :=
  ∀ (V S : Nat) (map : List MapEntry) (h : Nat), MapLaw V S map →
    (∀ r i o, findEntry map r = none → translate V (insertEntry (retireEntry r i o) map) h = translate V map h) ∧
    (∀ e j, e ∈ map → e.state = .live →
      translate V (updateEntry map e.region (convertEntry V j)) h = translate V map h) ∧
    (∀ e k q n b, e ∈ map → e.state = .copying k q n → n < 63 →
      translate V (updateEntry map e.region (advanceEntry b)) h =
        if h = lineOf e.region n then spareLine V e.spare n else translate V map h) ∧
    (∀ e k q b, e ∈ map → e.state = .copying k q 63 → h ≠ lineOf e.region 63 →
      translate V (updateEntry map e.region (completeEntry b)) h = translate V map h) ∧
    (∀ e k q b, e ∈ map → e.state = .copying k q 63 → h = lineOf e.region 63 →
      translate V (updateEntry map e.region (completeEntry b)) h = spareLine V e.spare 63) ∧
    (∀ r i, findEntry map r = none →
      translate V (insertEntry (loadedEntry r i) map) h =
        if regionOf h = r then spareLine V i (indexOf h) else translate V map h)

/-- Once inserted, an entry stays in the map until hard reset, with its host region and origin (R17, R27). -/
def Obligations.MapEntriesStay : Prop :=
  ∀ (c : Instr) (s t : State) (r : Nat) (e : MapEntry),
    exec c s = .next t → (∀ straps, c ≠ .hardReset .rise straps) → findEntry s.map r = some e →
      ∃ e', findEntry t.map r = some e' ∧ e'.region = e.region ∧ e'.origin = e.origin

/-- MAP_LOAD (R28): the four checks in order; when all hold, the LIVE entry is in the map at the position ascending order
gives it, the spare is IN_USE, and the reply carries the position and the new entry count. -/
def Obligations.MapLoadInserts : Prop :=
  ∀ (region : BitVec 32) (spare : Byte) (s : State), s.resetLow = false → s.map.Pairwise (fun a b => a.region < b.region) →
    let r := region.toNat
    let i := spare.toNat
    let n := s.map.countP fun e => e.region < r
    exec (.mapLoad region spare) s = .next
      (if s.bridge.state ≠ .standby then s.reply .badState []
       else if s.V ≤ r ∨ s.S ≤ i then s.reply .range []
       else if ∃ e ∈ s.map, e.region = r then s.reply .duplicate []
       else if s.spares[i]? ≠ some .free then s.reply .badState []
       else
        State.reply
          { s with map := s.map.take n ++ ⟨r, i, .live, 0, .loaded, 0⟩ :: s.map.drop n, spares := s.spares.set i .inUse }
          .done ([byte n] ++ le 2 (s.map.length + 1)))

/-- MAP_READ, MAP_FIND, SPARE_READ, QUEUE_READ and ENGINE_STATUS reply from the state as it stands and change nothing else
(R29, R30, R35, R41, R59). The bytes of a map entry are those of R188; those of SPARE_READ, QUEUE_READ and ENGINE_STATUS, which
12.6 does not lay out, are the fields of R35, R41 and R59 in their order, sized by R186 as R175 asks, with the model's reading of
what is absent (notes/assumptions/17.md, DEDUCED). -/
def Obligations.RepairReadsReply : Prop :=
  let entryBytes (count position : Nat) (e : MapEntry) : List Byte :=
    le 2 count ++ [byte position] ++ le 4 e.region ++ [byte e.spare] ++
      (match e.state with
        | .live => [0x00, 0xFF, 0xFF, 0xFF, 0xFF, 0xFF, 0xFF]
        | .copying kind source cursor =>
          [0x01, match kind with | .retire => 0x00 | .replace => 0x01] ++ le 4 source ++ [byte cursor]) ++
      [byte e.poisoned, match e.origin with | .health => 0x00 | .management => 0x01 | .loaded => 0x02, byte e.replacements]
  (∀ (x : Byte) (s : State), s.resetLow = false →
    exec (.mapRead x) s = .next
      (match s.map[x.toNat]? with
        | none => s.reply .notFound (le 2 s.map.length)
        | some e => s.reply .done (entryBytes s.map.length x.toNat e))) ∧
  (∀ (pre post : List MapEntry) (e : MapEntry) (region : BitVec 32) (s : State), s.resetLow = false →
    s.map = pre ++ e :: post → e.region = region.toNat → (∀ x ∈ pre, x.region ≠ region.toNat) →
      exec (.mapFind region) s = .next (s.reply .done (entryBytes s.map.length pre.length e))) ∧
  (∀ (region : BitVec 32) (s : State), s.resetLow = false → (∀ e ∈ s.map, e.region ≠ region.toNat) →
    exec (.mapFind region) s = .next (s.reply .notFound [])) ∧
  (∀ (i : Byte) (s : State), s.resetLow = false → s.S ≤ i.toNat →
    exec (.spareRead i) s = .next (s.reply .range [])) ∧
  (∀ (i : Byte) (x : SpareState) (s : State), s.resetLow = false → i.toNat < s.S → s.spares[i.toNat]? = some x →
    x ≠ .inUse → exec (.spareRead i) s = .next (s.reply .done ([x.code] ++ absent 5))) ∧
  (∀ (i : Byte) (e : MapEntry) (s : State), s.resetLow = false → MapLaw s.V s.S s.map → i.toNat < s.S →
    s.spares[i.toNat]? = some .inUse → e ∈ s.map →
      (e.spare = i.toNat → exec (.spareRead i) s = .next (s.reply .done ([0x02] ++ le 4 e.region ++ [0x00]))) ∧
      (e.oldSpare? s.V = some i.toNat →
        exec (.spareRead i) s = .next (s.reply .done ([0x02] ++ le 4 e.region ++ [0x01])))) ∧
  (∀ s : State, s.resetLow = false → exec .queueRead s = .next
    (s.reply .done (byte s.queue.length :: s.queue.flatMap fun r => le 4 r.region ++ [r.kind.code, r.origin.code]))) ∧
  (∀ s : State, s.resetLow = false → exec .engineStatus s = .next
    (s.reply .done
      (s.engine.code ::
        (match s.engine with
          | .copying j | .suspended j | .halted j =>
            le 4 j.region ++ [j.kind.code, byte j.spare] ++ le 4 j.source ++
              [byte j.cursor, j.phase.code, byte j.attempts, byte j.timeouts] ++ absent 4
          | .testing t => absent 14 ++ [byte t.index, byte t.line, t.phase.code, byte t.timeouts]
          | .idle => absent 18) ++
        [byte s.queue.length] ++
        (match s.lastTest with
          | some (i, r) => [byte i, r.code]
          | none => absent 2))))

/-! ### Spare Pool, Retirement Queue and Repair Engine (chapter 3) -/

/-- SPARE_MARK_BAD (R36) and SPARE_TEST (R55, R56): the checks in order; an accepted mark makes the record BAD; an accepted
test on a free key writes the pattern of line 0 under the hold on PHYS. The test's flow (R56, R57): the write's acknowledgement
reads the line back; a line that reads CLEAN with its pattern passes to the next line, after line 63 to GOOD; any other outcome
ends the test BAD; a timeout repeats the line from its write, the third on one line ends the test TIMEOUT. In CONTAIN and FORMAT
the memory operation in flight ends the test ABANDONED (R58), and in FORMAT the empty hold table starts the format (R75). The
spare returns to FREE after GOOD, whatever made it BAD (notes/assumptions/27.md). That what a timeout issues meets the quarantine
without the timed-out tag is the model's reading of R167 (notes/assumptions/38.md, DEDUCED). -/
def Obligations.SpareMarkAndTest : Prop :=
  (∀ (i : Byte) (s : State), s.resetLow = false →
    exec (.spareMarkBad i) s = .next
      (if s.bridge.state ≠ .standby then s.reply .badState []
       else if s.S ≤ i.toNat ∨ s.spares.length ≤ i.toNat then s.reply .range []
       else if s.spares[i.toNat]? = some .bad then s.reply .already []
       else if s.spares[i.toNat]? ≠ some .free then s.reply .badState []
       else State.reply { s with spares := s.spares.set i.toNat .bad } .done [])) ∧
  (∀ (i : Byte) (s : State), s.resetLow = false →
    (s.bridge.state = .format ∨ s.bridge.state = .contain → exec (.spareTest i) s = .next (s.reply .badState [])) ∧
    (s.bridge.state ≠ .format → s.bridge.state ≠ .contain →
      (s.engine ≠ .idle → exec (.spareTest i) s = .next (s.reply .busy [])) ∧
      (s.engine = .idle →
        (s.S ≤ i.toNat → exec (.spareTest i) s = .next (s.reply .range [])) ∧
        (i.toNat < s.S → ∀ x, s.spares[i.toNat]? = some x →
          ((∃ e ∈ s.map, e.isCopying = true) ∨ x = .testing ∨ x = .inUse →
            exec (.spareTest i) s = .next (s.reply .badState [])) ∧
          (∀ t, (∀ e ∈ s.map, e.isCopying = false) → x = .free ∨ x = .bad →
            let p := (s.V + i.toNat) * 64
            s.KeyFree (.phys p) → s.CanIssue t →
              exec (.spareTest i) s = .next
                ((State.issued
                  { s with
                    spares := s.spares.set i.toNat .testing
                    engine := .testing ⟨i.toNat, 0, .write, 0, x⟩
                    order := s.order.append (.phys p) .engine true }
                  t .engine (.mwr (encode (Vector.replicate 64 0))) p).reply .accepted [])))))) ∧
  ∀ (s : State) (t : TestJob) (g u : Fin 64) (line : Nat), s.engine = .testing t →
    let gen := s.mem.generation
    let p (k : Nat) : Nat := (s.V + t.index) * 64 + k
    let pattern (k : Nat) : Data := Vector.replicate 64 (BitVec.ofNat 8 k)
    (s.bridge.state ≠ .format → s.bridge.state ≠ .contain →
      (∀ w, s.Awaits g .engine (.mwr w) line → (s.answered g).CanIssue u →
        exec (.writeAck gen g) s = .next
          (State.issued { s.answered g with engine := .testing { t with phase := .read } } u .engine .mrd (p t.line))) ∧
      (∀ w, s.Awaits g .engine .mrd line → s.NoneWaits →
        (classify w = .clean (pattern t.line) → t.line < 63 → s.KeyFree (.phys (p (t.line + 1))) →
          (s.answered g).CanIssue u →
            exec (.readData gen g w) s = .next
              (State.issued
                { s.answered g with
                  engine := .testing { t with line := t.line + 1, phase := .write, timeouts := 0 }
                  order := (s.order.without .engine).append (.phys (p (t.line + 1))) .engine true }
                u .engine (.mwr (encode (pattern (t.line + 1)))) (p (t.line + 1)))) ∧
        (classify w = .clean (pattern t.line) → 63 ≤ t.line →
          exec (.readData gen g w) s = .next ((s.answered g).testEnded t.index .good .free)) ∧
        (classify w ≠ .clean (pattern t.line) →
          exec (.readData gen g w) s = .next ((s.answered g).testEnded t.index .bad .bad))) ∧
      (∀ kind, s.Awaits g .engine kind line →
        (t.timeouts < 2 → s.CanIssue u →
          exec (.memoryTimeout g) s = .next
            ((State.issued { s with engine := .testing { t with phase := .write, timeouts := t.timeouts + 1 } } u .engine
              (.mwr (encode (pattern t.line))) (p t.line)).timedOut g kind line .engine)) ∧
        (2 ≤ t.timeouts → s.NoneWaits →
          exec (.memoryTimeout g) s = .next
            ((s.testEnded t.index .timeout t.before).timedOut g kind line .engine)))) ∧
    (s.bridge.state = .contain →
      (∀ w, s.Awaits g .engine .mrd line →
        exec (.readData gen g w) s = .next ((s.answered g).testEnded t.index .abandoned t.before)) ∧
      (∀ w, s.Awaits g .engine (.mwr w) line →
        exec (.writeAck gen g) s = .next ((s.answered g).testEnded t.index .abandoned t.before)) ∧
      (∀ kind, s.Awaits g .engine kind line →
        exec (.memoryTimeout g) s = .next
          ((s.testEnded t.index .abandoned t.before).timedOut g kind line .engine))) ∧
    (s.bridge.state = .format → s.NoneWaits →
      (∀ w, s.Awaits g .engine .mrd line → (s.answered g).mem.NextTag u →
        exec (.readData gen g w) s = .next (((s.answered g).testEnded t.index .abandoned t.before).drained u)) ∧
      (∀ w, s.Awaits g .engine (.mwr w) line → (s.answered g).mem.NextTag u →
        exec (.writeAck gen g) s = .next (((s.answered g).testEnded t.index .abandoned t.before).drained u)) ∧
      (∀ kind, s.Awaits g .engine kind line → s.mem.NextTag u →
        exec (.memoryTimeout g) s = .next
          (((s.testEnded t.index .abandoned t.before).drained u).timedOut g kind line .engine)))

/-- RETIRE (R40) with the submission of R39: the five checks in order; an accepted request joins the tail and RETIRE_QUEUED is
logged. -/
def Obligations.RetireSubmits : Prop :=
  ∀ (region : BitVec 32) (s : State), s.resetLow = false → s.map.Pairwise (fun a b => a.region < b.region) →
    let r := region.toNat
    exec (.retire region) s = .next
      (if ¬ (s.bridge.state = .online ∨ s.bridge.state = .degraded) then s.reply .badState []
       else if s.V ≤ r then s.reply .range []
       else if ∃ e ∈ s.map, e.region = r ∧ e.state = .live then s.reply .already []
       else if (∃ q ∈ s.queue, q.region = r) ∨ (∃ e ∈ s.map, e.region = r ∧ e.isCopying = true) then
        s.reply .duplicate []
       else if 8 ≤ s.queue.length then (s.logEvent (.retireRefused r)).reply .full []
       else
        (State.logEvent { s with queue := s.queue ++ [⟨r, .retire, .management⟩] }
          (.retireQueued r .retire .management)).reply .done [byte (s.queue.length + 1)])

/-- A job start that runs (R43 to R46): it resumes the COPYING entry, or takes the head request and allocates the FREE spare
of lowest index; JOB_STARTED is logged, a DEGRADED bridge returns to ONLINE at an allocation (R135), and with its key free the
step of the cursor line reads its source. RESUME_COPY (R52): from SUSPENDED the step of the cursor line begins with step
timeouts 0; in any other engine state the command is refused and changes nothing. The premise that no PHYS hold is on the
source line is the model's reading of R67 with R72 (notes/assumptions/34.md, DEDUCED). -/
def Obligations.JobStartsAndResumes : Prop :=
  (∀ s : State, s.resetLow = false → (∀ j, s.engine ≠ .suspended j) →
    exec .resumeCopy s = .next (s.reply .badState [])) ∧
  (∀ (s : State) (j : CopyJob) (t : Fin 64), s.resetLow = false →
    s.engine = .suspended j → s.KeyFree (.host (j.region * 64 + j.cursor)) →
    s.KeyFree (.phys ((s.V + j.spare) * 64 + j.cursor)) → s.KeyFree (.phys (j.source * 64 + j.cursor)) → s.CanIssue t →
      exec .resumeCopy s = .next
        ((State.issued
          { s with
            engine := .copying { j with phase := .read, attempts := 1, timeouts := 0 }
            order := s.order.append (.host (j.region * 64 + j.cursor)) .engine true }
          t .engine .mrd (j.source * 64 + j.cursor)).reply .done [])) ∧
  ∀ (s : State) (t : Fin 64), s.resetLow = false → s.engine = .idle →
    s.bridge.state = .online ∨ s.bridge.state = .degraded → s.CanIssue t →
    let allocated (u : State) (e : Event) : State :=
      if s.bridge.state = .degraded then (u.logEvent e).changeBridge .online else u.logEvent e
    let running (u : State) (r : Nat) (kind : JobKind) (i q n : Nat) : State :=
      State.issued
        { u with
          engine := .copying ⟨r, kind, i, q, n, .read, 1, 0, false⟩
          order := u.order.append (.host (r * 64 + n)) .engine true }
        t .engine .mrd (q * 64 + n)
    (∀ e kind q n, s.map.find? MapEntry.isCopying = some e → e.state = .copying kind q n →
      s.KeyFree (.host (e.region * 64 + n)) → s.KeyFree (.phys ((s.V + e.spare) * 64 + n)) →
      s.KeyFree (.phys (q * 64 + n)) →
        exec .jobStart s = .next (running (s.logEvent (.jobStarted e.region kind e.spare)) e.region kind e.spare q n)) ∧
    (∀ r rest i, (∀ e ∈ s.map, e.isCopying = false) → s.queue = r :: rest →
      s.spares[i]? = some .free → (∀ j < i, s.spares[j]? ≠ some .free) →
      s.KeyFree (.host (r.region * 64)) → s.KeyFree (.phys ((s.V + i) * 64)) →
        (r.kind = .retire → (∀ e ∈ s.map, e.region ≠ r.region) → s.KeyFree (.phys (r.region * 64)) →
          exec .jobStart s = .next
            (running
              (allocated
                { s with
                  queue := rest
                  spares := s.spares.set i .inUse
                  map := insertEntry ⟨r.region, i, .copying .retire r.region 0, 0, r.origin, 0⟩ s.map }
                (.jobStarted r.region .retire i))
              r.region .retire i r.region 0)) ∧
        (∀ e, r.kind = .replace → findEntry s.map r.region = some e → s.KeyFree (.phys ((s.V + e.spare) * 64)) →
          exec .jobStart s = .next
            (running
              (allocated
                { s with
                  queue := rest
                  spares := s.spares.set i .inUse
                  map := s.map.map fun x =>
                    if x.region = r.region then
                      { x with spare := i, state := .copying .replace (s.V + x.spare) 0, poisoned := 0 }
                    else x }
                (.jobStarted r.region .replace i))
              r.region .replace i (s.V + e.spare) 0)))

/-- A job start that finds no FREE spare (R47, R135): the request is gone, NO_SPARE is logged, an ONLINE bridge goes to
DEGRADED, and the STRANDED notice for the source region is handed over; map, pool and engine are as they were. -/
def Obligations.JobStartWithoutSpare : Prop :=
  ∀ (s : State) (r : Request) (rest : List Request), s.resetLow = false →
    s.engine = .idle → s.bridge.state = .online ∨ s.bridge.state = .degraded → (∀ e ∈ s.map, e.isCopying = false) →
    s.queue = r :: rest → (∀ x ∈ s.spares, x ≠ .free) →
      let refused (q : Nat) : State :=
        let u := State.logEvent { s with queue := rest } (.noSpare r.region r.kind)
        (if s.bridge.state = .online then u.changeBridge .degraded else u).handedOver (.stranded q)
      (r.kind = .retire → (∀ e ∈ s.map, e.region ≠ r.region) → exec .jobStart s = .next (refused r.region)) ∧
      (∀ e, r.kind = .replace → findEntry s.map r.region = some e →
        exec .jobStart s = .next (refused (s.V + e.spare)))

/-- The source read of a copy step (R48, R49): each outcome decides the spare write, and an UNCORRECTABLE read is repeated
up to READ_RETRIES times before the poison mark goes to the spare. -/
def Obligations.CopyStepWritesSpare : Prop :=
  ∀ (s : State) (j : CopyJob) (g t : Fin 64) (line : Nat) (w : Codeword),
    s.engine = .copying j → s.Awaits g .engine .mrd line → (s.answered g).CanIssue t →
      let spare := (s.V + j.spare) * 64 + j.cursor
      let source := j.source * 64 + j.cursor
      let write (poison : Bool) (v : Codeword) : State :=
        State.issued { s.answered g with engine := .copying { j with phase := .write, poison := poison } } t .engine (.mwr v)
          spare
      exec (.readData s.mem.generation g w) s = .next
        (match classify w with
          | .clean d => write false (encode d)
          | .corrected _ v => write false v
          | .poison => write true (poisonMark (Vector.replicate 64 0))
          | .uncorrectable =>
            if j.attempts - 1 < s.mgmt.params.readRetries then
              State.issued
                { s.answered g with engine := .copying { j with phase := .retry, attempts := j.attempts + 1 } } t .engine
                .mrd source
            else (write true (poisonMark (Vector.replicate 64 0))).logEvent (.uncorrectable source none .copy))

/-- The acknowledged spare write of a line below 63 (R25, R50): cursor and poison count advance, the hold is released, and the
step of the next line begins, which reads its source when its key is free. In CONTAIN the engine's memory operation in flight,
whatever it gave, only releases the step's hold: no cursor advance, no poison count (R54). The premise that no PHYS hold is on
the next source line is the model's reading of R67 with R72 (notes/assumptions/34.md, DEDUCED). -/
def Obligations.CopyStepAdvances : Prop :=
  (∀ (s : State) (j : CopyJob) (g t : Fin 64) (line : Nat) (w : Codeword),
    s.engine = .copying j → j.cursor < 63 → s.Awaits g .engine (.mwr w) line →
    s.bridge.state = .online ∨ s.bridge.state = .degraded → s.NoneWaits →
    s.KeyFree (.host (j.region * 64 + (j.cursor + 1))) → s.KeyFree (.phys ((s.V + j.spare) * 64 + (j.cursor + 1))) →
    s.KeyFree (.phys (j.source * 64 + (j.cursor + 1))) → (s.answered g).CanIssue t →
      exec (.writeAck s.mem.generation g) s = .next
        (State.issued
          { s.answered g with
            map := s.map.map fun e =>
              if e.region = j.region then
                match e.state with
                | .live => e
                | .copying k q n =>
                  { e with state := .copying k q (n + 1), poisoned := e.poisoned + (if j.poison then 1 else 0) }
              else e
            engine := .copying { j with cursor := j.cursor + 1, phase := .read, attempts := 1, timeouts := 0, poison := false }
            order := (s.order.without .engine).append (.host (j.region * 64 + (j.cursor + 1))) .engine true }
          t .engine .mrd (j.source * 64 + (j.cursor + 1)))) ∧
  ∀ (s : State) (g : Fin 64) (line : Nat), s.bridge.state = .contain → (∀ t, s.engine ≠ .testing t) →
    (∀ w, s.Awaits g .engine .mrd line →
      exec (.readData s.mem.generation g w) s = .next { s.answered g with order := s.order.without .engine }) ∧
    (∀ w, s.Awaits g .engine (.mwr w) line →
      exec (.writeAck s.mem.generation g) s = .next { s.answered g with order := s.order.without .engine }) ∧
    (∀ kind, s.Awaits g .engine kind line →
      exec (.memoryTimeout g) s = .next
        (State.timedOut { s with order := s.order.without .engine } g kind line .engine))

/-- The acknowledged spare write of line 63 (R26, R53): the entry is LIVE, the old spare of a REPLACE job BAD, the hold
released, JOB_DONE logged, the removal notice handed over, and the engine IDLE. -/
def Obligations.CopyJobCompletes : Prop :=
  ∀ (s : State) (j : CopyJob) (g : Fin 64) (line : Nat) (w : Codeword) (e : MapEntry),
    s.engine = .copying j → j.cursor = 63 → s.Awaits g .engine (.mwr w) line →
    s.bridge.state = .online ∨ s.bridge.state = .degraded → s.NoneWaits →
    findEntry s.map j.region = some e → e.state = .copying j.kind j.source 63 →
    (∀ x ∈ s.map, x.region = j.region → x = e) →
      let poisoned := e.poisoned + (if j.poison then 1 else 0)
      exec (.writeAck s.mem.generation g) s = .next
        (State.handedOver
          (State.logEvent
            { s.answered g with
              map := s.map.map fun x =>
                if x.region = j.region then
                  { x with
                    state := .live
                    poisoned := poisoned
                    replacements := if j.kind = .replace then min (x.replacements + 1) 255 else x.replacements }
                else x
              spares := if j.kind = .replace then s.spares.set (j.source - s.V) .bad else s.spares
              order := s.order.without .engine
              engine := .idle }
            (.jobDone j.region j.kind j.spare poisoned))
          (.removal j.source))

/-! ### Line holds (chapter 4) -/

/-- A request on a key that has an ACTIVE hold waits behind it (R65); so does one on a HOST key on which the oldest hold, or
the request itself where it is the first, is held back by a PHYS hold on a line its owner would touch (R67): the hold is
WAITING and no memory operation is issued. It is a host request, a patrol visit, the copy step of RESUME_COPY, a spare test or
a diagnostic operation. That a PHYS hold on its source line holds a copy step back, as one on its spare line does, is the
model's reading of R67 with R72 (notes/assumptions/34.md, DEDUCED). -/
def Obligations.RequestWaitsItsTurn : Prop :=
  ∀ s : State, s.resetLow = false →
    let touched (u : State) (o : Owner) (h : Nat) : List Nat :=
      match o, u.engine with
      | .engine, .copying j => [(s.V + j.spare) * 64 + j.cursor, j.source * 64 + j.cursor]
      | _, _ => [translate s.V s.map h]
    let taken (k : Key) : Prop := ∃ e ∈ s.order.entries, e.key = k ∧ e.active = true
    let blocked (u : State) (o : Owner) (h : Nat) : Prop :=
      ∃ first, ((s.KeyFree (.host h) ∧ first = o) ∨
          ∃ pre e post, s.order.entries = pre ++ e :: post ∧ e.key = .host h ∧ (∀ x ∈ pre, x.key ≠ .host h) ∧
            first = e.owner) ∧
        ∃ p ∈ touched u first h, ∃ x ∈ s.order.entries, x.key = .phys p
    (∀ (req : HostReq) (tag : Fin 32) (line : BitVec 32),
      let h := line.toNat % 2 ^ 28
      s.Accepts tag h → taken (.host h) ∨ blocked s (.host tag) h →
        exec (req.command tag line) s =
          .next (s.handed ⟨tag, req, h, none, .waitHold, 0, false, false⟩ false)) ∧
    (∀ us, s.patrol.timer = .running us → s.patrol.running = true → s.patrol.visit = none →
      s.bridge.state = .online ∨ s.bridge.state = .degraded →
      (∀ e, findEntry s.map (s.patrol.position / 64) = some e → e.isCopying = false) →
      taken (.host s.patrol.position) ∨ blocked s .patrol s.patrol.position →
        exec .intervalTimerRunOut s = .next
          { s with
            patrol :=
              { s.patrol with
                timer := .running s.mgmt.params.patrolIntervalUs
                visit := some ⟨s.patrol.position, none, .waitHold, 0, .none⟩ }
            order := s.order.append (.host s.patrol.position) .patrol false }) ∧
    (∀ j, s.engine = .suspended j →
      let h := j.region * 64 + j.cursor
      let u : State := { s with engine := .copying { j with phase := .waitHold, timeouts := 0 } }
      taken (.host h) ∨ blocked u .engine h →
        exec .resumeCopy s = .next (State.reply { u with order := s.order.append (.host h) .engine false } .done [])) ∧
    (∀ (i : Byte) (x : SpareState), s.bridge.state ≠ .format → s.bridge.state ≠ .contain → s.engine = .idle →
      (∀ e ∈ s.map, e.isCopying = false) → i.toNat < s.S → s.spares[i.toNat]? = some x → x = .free ∨ x = .bad →
      taken (.phys ((s.V + i.toNat) * 64)) →
        exec (.spareTest i) s = .next
          (State.reply
            { s with
              spares := s.spares.set i.toNat .testing
              engine := .testing ⟨i.toNat, 0, .waitHold, 0, x⟩
              order := s.order.append (.phys ((s.V + i.toNat) * 64)) .engine false }
            .accepted [])) ∧
    ∀ (line : BitVec 32) (c : Instr) (kind : DiagKind),
      let p := line.toNat
      let key : Key := match servedBy s.V s.map p with | some h => .host h | none => .phys p
      s.bridge.state ≠ .format → s.bridge.state ≠ .contain → s.mgmt.diag = none → p < s.P * 64 →
      (∀ r b, s.relation (p / 64) ≠ .inCopy r b) →
      (c = .diagFetch line ∧ kind = .fetch) ∨
        (s.bridge.state = .standby ∧ s.mgmt.view.valid = true ∧
          ((c = .diagStore line 0x00 ∧ kind = .storeCode) ∨ (c = .diagStore line 0x01 ∧ kind = .storePoison))) →
      taken key ∨ (∃ h, key = .host h ∧ blocked s .diag h) →
        exec c s = .next
          (State.reply
            { s with mgmt := { s.mgmt with diag := some ⟨kind, p⟩ }, order := s.order.append key .diag false } .accepted [])

/-- The release of a hold makes the oldest waiter of its key ACTIVE, in the same happening and after the response (R66, R68):
the hold released is a host write's; the waiter, translated now, is a host operation that reads or writes, a patrol visit, a
copy step or a diagnostic operation, and it issues its first memory operation. The release of a PHYS hold lets the HOST hold
go that it held back (R67, R68): here a diagnostic's PHYS hold, and a host read or a copy step. That a PHYS hold on its source
line holds a copy step back, as one on its spare line does, is the model's reading of R67 with R72 (notes/assumptions/34.md,
DEDUCED). -/
def Obligations.ReleaseActivatesOldestWaiter : Prop :=
  (∀ (s : State) (a : HostOp) (ea eb : Hold) (more : List Hold) (g t : Fin 64) (line : Nat) (w : Codeword),
    s.bridge.state = .online ∨ s.bridge.state = .degraded → s.opOf a.tag = some a →
    a.phase = .dataWrite → a.orphan = false →
    s.Awaits g (.host a.tag) (.mwr w) line → (s.answered g).CanIssue t →
    s.holdOf (.host a.tag) = some ea →
    s.order.entries.filter (fun e => e.key = .host a.line) = ea :: eb :: more →
    ea.owner = .host a.tag → (∀ e ∈ eb :: more, e.active = false ∧ e.owner ≠ .host a.tag) →
      let p := translate s.V s.map a.line
      let u := ((s.answered g).responded a.tag .ok (a.req.responseData Data.zero)).hostDone a.tag
      let freed : State := { u with order := { u.order with entries := activateOldest (.host a.line) u.order.entries } }
      let answers (r : State) : Prop := exec (.writeAck s.mem.generation g) s = .next r
      (∀ b, s.KeyFree (.phys p) → eb.owner = .host b.tag → s.opOf b.tag = some b → b.line = a.line →
        (b.req = .rd ∨ (∃ d m, b.req = .wrp d m ∧ m ≠ 0 ∧ m ≠ BitVec.allOnes 64) →
          answers (State.issued (freed.withOp { b with phys := some p, phase := .read, attempts := 1 }) t (.host b.tag) .mrd
            p)) ∧
        (∀ d, b.req = .wr d ∨ b.req = .wrp d (BitVec.allOnes 64) →
          answers (State.issued (freed.withOp { b with phys := some p, phase := .dataWrite }) t (.host b.tag)
            (.mwr (encode d)) p))) ∧
      (∀ v, s.KeyFree (.phys p) → eb.owner = .patrol → s.patrol.visit = some v → v.line = a.line →
        (∀ e, findEntry s.map (a.line / 64) = some e → e.isCopying = false) →
          answers (State.issued
            { freed with patrol := { s.patrol with visit := some { v with phys := some p, phase := .read, attempts := 1 } } } t
            .patrol .mrd p)) ∧
      (∀ j, s.KeyFree (.phys ((s.V + j.spare) * 64 + j.cursor)) → s.KeyFree (.phys (j.source * 64 + j.cursor)) →
        eb.owner = .engine → s.engine = .copying j →
        answers (State.issued { freed with engine := .copying { j with phase := .read, attempts := 1 } } t .engine .mrd
          (j.source * 64 + j.cursor))) ∧
      (∀ d, s.KeyFree (.phys p) → eb.owner = .diag → s.mgmt.diag = some d →
        answers (State.issued freed t .diag
          (match d.kind with
            | .fetch => .mrd
            | .storeCode => .mwr (encode s.mgmt.view.symbols.data)
            | .storePoison => .mwr (poisonMark s.mgmt.view.symbols.data))
          d.line))) ∧
  ∀ (s : State) (d : DiagOp) (ed eb : Hold) (more : List Hold) (g t : Fin 64) (line p h : Nat) (w v : Codeword),
    s.bridge.state = .online ∨ s.bridge.state = .degraded → s.mgmt.diag = some d →
    (s.answered g).CanIssue t → s.holdOf .diag = some ed → ed.key = .phys p →
    (∀ e ∈ s.order.entries, e.active = false → e.key = .host h) →
    s.order.entries.filter (fun e => e.key = .host h) = eb :: more →
    (∀ e ∈ eb :: more, e.active = false ∧ e.owner ≠ .diag) →
      let ended (fill : Buffer) : State :=
        let order := s.order.without .diag
        { s.answered g with
          mgmt := { s.mgmt with diag := none, fill := fill }
          order := { order with entries := activateOldest (.host h) order.entries } }
      let thenBegins (begun : State → State) : Prop :=
        (d.kind = .fetch → s.Awaits g .diag .mrd line → ∀ x,
          (∃ y, classify w = .clean y ∧ x = .clean) ∨ (∃ k y, classify w = .corrected k y ∧ x = .corrected) ∨
            (classify w = .poison ∧ x = .poison) ∨ (classify w = .uncorrectable ∧ x = .uncorrectable) →
            exec (.readData s.mem.generation g w) s = .next (begun (ended ⟨w, d.line, x, true⟩))) ∧
        (d.kind ≠ .fetch → s.Awaits g .diag (.mwr v) line →
          exec (.writeAck s.mem.generation g) s = .next (begun (ended s.mgmt.fill)))
      (∀ b, eb.owner = .host b.tag → s.opOf b.tag = some b → b.req = .rd → b.line = h → p = translate s.V s.map h →
        (∀ e ∈ s.order.entries, e.key = .phys p → e.owner = .diag) →
          thenBegins fun u =>
            State.issued (u.withOp { b with phys := some p, phase := .read, attempts := 1 }) t (.host b.tag) .mrd p) ∧
      (∀ j, eb.owner = .engine → s.engine = .copying j →
        let spare := (s.V + j.spare) * 64 + j.cursor
        let source := j.source * 64 + j.cursor
        p = spare ∨ p = source →
        (∀ e ∈ s.order.entries, e.key = .phys spare ∨ e.key = .phys source → e.owner = .diag) →
          thenBegins fun u =>
            State.issued { u with engine := .copying { j with phase := .read, attempts := 1 } } t .engine .mrd source)

/-- For every line key at most one hold is ACTIVE (R65): every command keeps the law, from every state that has it. -/
def Obligations.OneActiveHoldKept : Prop :=
  ∀ (c : Instr) (s t : State), HoldLaw s → exec c s = .next t → HoldLaw t

/-! ### Host requests (chapters 5 and 10) -/

/-- The acceptance of a request message, rows 1 to 6 of R157 in order: discarded in QUIESCE, discarded as malformed, discarded
as a tag clash, answered FAILED, NOT_READY or RANGE. An answer leaves at once, and no hold, record or memory operation comes of
it. -/
def Obligations.AcceptanceChecks : Prop :=
  ∀ (req : HostReq) (tag : Fin 32) (line : BitVec 32) (s : State), s.resetLow = false →
    let answer (st : RespStatus) : State :=
      (s.responded tag st (match req with | .rd => some (Vector.replicate 64 0) | _ => none)).count req.counter
    (s.link.quiesce = true → exec (req.command tag line) s = .next (s.count Counters.bumpDiscarded)) ∧
    (s.link.quiesce = false →
      (tag ∈ s.link.busy →
        exec (req.command tag line) s = .next ((s.logEvent (.tagClash tag)).count Counters.bumpTagClashes)) ∧
      (tag ∉ s.link.busy →
        (s.bridge.state = .contain → exec (req.command tag line) s = .next (answer .failed)) ∧
        (s.bridge.state = .standby ∨ s.bridge.state = .format →
          exec (req.command tag line) s = .next (answer .notReady)) ∧
        (s.bridge.state = .online ∨ s.bridge.state = .degraded → s.V * 64 ≤ line.toNat % 2 ^ 28 →
          exec (req.command tag line) s = .next (answer .range)))) ∧
    ∀ kind : Byte, kind ≠ 0x01 → kind ≠ 0x02 → kind ≠ 0x03 →
      exec (.malformed kind) s = .next
        (if s.link.quiesce then s.count Counters.bumpDiscarded
         else (s.logEvent (.malformed kind)).count Counters.bumpDiscarded)

/-- Row 7 of R157 with a free key (R65, R79, R81, R88 to R90): the tag is BUSY, the hold ACTIVE, the line translated, and the
request's first memory operation is issued: a read for an RD or a merging WRP, the write of the request's data for a WR or
an all-ones WRP; a WRP that selects no byte is answered OK and gone. -/
def Obligations.AcceptedRequestIssues : Prop :=
  ∀ (tag : Fin 32) (line : BitVec 32) (s : State) (t : Fin 64),
    let h := line.toNat % 2 ^ 28
    let p := translate s.V s.map h
    s.Accepts tag h → s.KeyFree (.host h) → s.KeyFree (.phys p) → s.CanIssue t →
      let reads (req : HostReq) : State :=
        (s.handed ⟨tag, req, h, some p, .read, 1, false, false⟩ true).issued t (.host tag) .mrd p
      let writes (req : HostReq) (d : Data) : State :=
        (s.handed ⟨tag, req, h, some p, .dataWrite, 0, false, false⟩ true).issued t (.host tag) (.mwr (encode d)) p
      exec (.rd tag line) s = .next (reads .rd) ∧
      (∀ d, exec (.wr tag line d) s = .next (writes (.wr d) d)) ∧
      (∀ d, exec (.wrp tag line d (BitVec.allOnes 64)) s = .next (writes (.wrp d (BitVec.allOnes 64)) d)) ∧
      (∀ d m, m ≠ 0 → m ≠ BitVec.allOnes 64 → exec (.wrp tag line d m) s = .next (reads (.wrp d m))) ∧
      (∀ d, (∀ e ∈ s.order.entries, e.owner ≠ .host tag) →
        exec (.wrp tag line d 0) s = .next
          { s with
            order := { s.order with nextArrival := s.order.nextArrival + 1 }
            hostOut := s.hostOut ++ [⟨tag, .ok, none⟩]
            ev := { s.ev with counters := s.ev.counters.bumpHostPartials } })

/-- The read of an RD is answered (R81, R82, R84, R92): CLEAN and POISON end the operation with their response; CORRECTED
responds at once and writes the corrected codeword back. On a retry the transient is recorded in place of the report. An orphan
does the same and sends nothing (R97). In CONTAIN a read that ends gives an RD or WRP its response by the table of R96, with its
report or transient, and ends the operation: no write-back, merge write, retry or poison write, and no UNCORRECTABLE record. That
the last orphan's TRANSIENT is logged before PORT_QUIESCED is the model's choice (R146, notes/assumptions/11.md). -/
def Obligations.ReadAnswered : Prop :=
  ∀ (s : State) (op : HostOp) (p : Nat) (g t : Fin 64) (line : Nat) (w : Codeword),
    s.opOf op.tag = some op → op.phys = some p → op.phase = .read ∨ op.phase = .retry →
    s.Awaits g (.host op.tag) .mrd line →
      let a := s.answered g
      let recorded (k : ReportKind) : State :=
        if op.phase = .retry then a.hostTransientRecorded p op.attempts
        else match k with
          | .corrected _ => a.hostReported k p
          | _ => a
      (s.bridge.state = .online ∨ s.bridge.state = .degraded → s.NoneWaits → op.req = .rd →
        (∀ d, classify w = .clean d →
          exec (.readData s.mem.generation g w) s =
            .next (((recorded .transient).answeredTo op .ok d).opEnded op)) ∧
        (classify w = .poison →
          exec (.readData s.mem.generation g w) s =
            .next ((a.answeredTo op .poisoned (Vector.replicate 64 0)).opEnded op)) ∧
        (∀ k v, classify w = .corrected k v → a.CanIssue t →
          exec (.readData s.mem.generation g w) s = .next
            (State.issued
              (((recorded (.corrected k)).answeredTo op .corrected v.data).withOp
                { op with phase := .writeback, responseSent := !op.orphan })
              t (.host op.tag) (.mwr v) p))) ∧
      (s.bridge.state = .contain →
        let data (d : Data) : Data := if op.req = .rd then d else Vector.replicate 64 0
        let status (st : RespStatus) : RespStatus := if op.req = .rd then st else .failed
        exec (.readData s.mem.generation g w) s = .next
          (match classify w with
            | .clean d => ((recorded .transient).answeredTo op (status .ok) (data d)).opEnded op
            | .corrected k v => ((recorded (.corrected k)).answeredTo op (status .corrected) (data v.data)).opEnded op
            | .poison => (a.answeredTo op .poisoned (Vector.replicate 64 0)).opEnded op
            | .uncorrectable => (a.answeredTo op .failed (Vector.replicate 64 0)).opEnded op))

/-- An UNCORRECTABLE read of an RD or WRP (R83, R85, R86): another read while the retries made are below READ_RETRIES; else,
under UE_POLICY POISON, the poison write with report, event and count; under CONTAIN, the FAILED response, the same
records, and the containment request. An orphan does the same and sends nothing (R97); that the last orphan's UNCORRECTABLE is
logged before PORT_QUIESCED is the model's choice (R146, notes/assumptions/11.md). -/
def Obligations.UncorrectableReadHandled : Prop :=
  ∀ (s : State) (op : HostOp) (p : Nat) (g t : Fin 64) (line : Nat) (w : Codeword),
    s.bridge.state = .online ∨ s.bridge.state = .degraded → s.opOf op.tag = some op →
    op.phys = some p → op.phase = .read ∨ op.phase = .retry →
    s.Awaits g (.host op.tag) .mrd line → classify w = .uncorrectable →
      let a := s.answered g
      let final (u : State) (x : UeAction) : State :=
        ((u.hostReported .uncorrectable p).logEvent (.uncorrectable p (some op.line) x)).count Counters.bumpUeFinal
      (op.attempts - 1 < s.mgmt.params.readRetries → a.CanIssue t →
        exec (.readData s.mem.generation g w) s = .next
          (State.issued ((a.withOp { op with phase := .retry, attempts := op.attempts + 1 }).count Counters.bumpRetryReads) t
            (.host op.tag) .mrd p)) ∧
      (s.mgmt.params.readRetries ≤ op.attempts - 1 →
        (s.mgmt.params.uePolicy = .poison → a.CanIssue t →
          exec (.readData s.mem.generation g w) s = .next
            (final
              (State.issued (a.withOp { op with phase := .poisonWrite }) t (.host op.tag)
                (.mwr (poisonMark (Vector.replicate 64 0))) p)
              .hostPoisoned)) ∧
        (s.mgmt.params.uePolicy = .contain → s.NoneWaits →
          exec (.readData s.mem.generation g w) s = .next
            (let u := (final (a.answeredTo op .failed (Vector.replicate 64 0)) .hostContained).opEnded op
             { u with bridge := { u.bridge with fromHandler := u.bridge.fromHandler ++ [⟨.uePolicy, some p⟩] } })))

/-- A partial write merges into the line read (R90, R91), on the first read or on a retry, which is a transient (R84): each
selected byte from the request, each other byte from the data the read yielded, encoded afresh; a POISON line is not merged. An
orphan does the same and sends nothing (R97). -/
def Obligations.PartialWriteMerges : Prop :=
  ∀ (s : State) (op : HostOp) (d : Data) (m : BitVec 64) (p : Nat) (g t : Fin 64) (line : Nat) (w : Codeword),
    s.bridge.state = .online ∨ s.bridge.state = .degraded → s.opOf op.tag = some op →
    op.req = .wrp d m → op.phys = some p → op.phase = .read ∨ op.phase = .retry →
    s.Awaits g (.host op.tag) .mrd line →
      let a := s.answered g
      (∀ old u, a.CanIssue t →
        (classify w = .clean old ∧ u = (if op.phase = .retry then a.hostTransientRecorded p op.attempts else a)) ∨
          (∃ k v, classify w = .corrected k v ∧ old = v.data ∧
            u = (if op.phase = .retry then a.hostTransientRecorded p op.attempts else a.hostReported (.corrected k) p)) →
        ∃ merged : Data, (∀ i : Fin 64, merged[i] = if m.getLsbD i then d[i] else old[i]) ∧
          exec (.readData s.mem.generation g w) s = .next
            (State.issued (u.withOp { op with phase := .dataWrite }) t (.host op.tag) (.mwr (encode merged)) p)) ∧
      (classify w = .poison → s.NoneWaits →
        exec (.readData s.mem.generation g w) s =
          .next ((a.answeredTo op .poisoned (Vector.replicate 64 0)).opEnded op))

/-- The acknowledgement of a host operation's write (R82, R85, R88, R90): a data write answers OK, a poison write POISONED, a
demand write-back nothing further; each ends the operation. An orphan's write answers nothing; the last orphan's end
returns the port to UP and logs PORT_QUIESCED (R73, R97, R162). In CONTAIN a data write and a poison write answer FAILED, and a
write-back nothing (R96). -/
def Obligations.HostWriteAcknowledged : Prop :=
  ∀ (s : State) (op : HostOp) (g : Fin 64) (line : Nat) (w : Codeword),
    s.opOf op.tag = some op → s.Awaits g (.host op.tag) (.mwr w) line →
      let a := s.answered g
      let data := op.req.responseData (Vector.replicate 64 0)
      (s.bridge.state = .online ∨ s.bridge.state = .degraded → s.NoneWaits →
        (op.orphan = false →
          (op.phase = .dataWrite →
            exec (.writeAck s.mem.generation g) s = .next ((a.responded op.tag .ok data).hostDone op.tag)) ∧
          (op.phase = .poisonWrite →
            exec (.writeAck s.mem.generation g) s =
              .next (((a.responded op.tag .poisoned data).count Counters.bumpRespPoisoned).hostDone op.tag)) ∧
          (op.phase = .writeback → exec (.writeAck s.mem.generation g) s = .next (a.hostDone op.tag))) ∧
        (op.orphan = true → op.phase = .dataWrite ∨ op.phase = .poisonWrite ∨ op.phase = .writeback →
          let u : State :=
            { a with
              order := { a.order.without (.host op.tag) with finished := a.order.finished + 1 }
              ops := a.ops.filter fun o => o.tag ≠ op.tag }
          ((∃ o ∈ u.ops, o.orphan = true) → exec (.writeAck s.mem.generation g) s = .next u) ∧
          ((∀ o ∈ u.ops, o.orphan = false) →
            exec (.writeAck s.mem.generation g) s =
              .next
                (State.logEvent { u with link := { u.link with quiesce := false } }
                  (.portQuiesced (s.order.finished + 1)))))) ∧
      (s.bridge.state = .contain →
        (op.phase = .dataWrite ∨ op.phase = .poisonWrite →
          exec (.writeAck s.mem.generation g) s =
            .next ((a.answeredTo op .failed (Vector.replicate 64 0)).opEnded op)) ∧
        (op.phase = .writeback → exec (.writeAck s.mem.generation g) s = .next (a.opEnded op)))

/-- Every command keeps this law of the responses sent, from every state that has it (R155): data under a status other than OK
and CORRECTED is zero, and no WRR carries CORRECTED. What an RDR carries under OK or CORRECTED is ReadAnswered's. -/
def Obligations.ResponseLawKept : Prop :=
  ∀ (c : Instr) (s t : State), ResponseLaw s → exec c s = .next t → ResponseLaw t

/-- The table of writers in 1.6: whatever writes to memory, the codeword is valid or poison-marked. Every command keeps the law,
from every state that has it. -/
def Obligations.CodewordLawKept : Prop :=
  ∀ (c : Instr) (s t : State), CodewordLaw s → exec c s = .next t → CodewordLaw t

/-! ### Health Tracker (chapter 6) -/

/-- REPORT_TAKEN (R101, R102, R104 to R108): discarded by the relation of its region; else the CORRECTED event with
EVENT_CORRECTED on, the update of the region's entry, or of a new one at the tail, in any status, the return of a STRANDED entry
to WATCH while a spare is FREE, and the trigger of a WATCH entry when it fires. Three points are the model's readings, not the
spec's words: the discard follows R101's table also for a report that R109 lets update the entry of the job's source
(notes/assumptions/28.md, DEDUCED); the pass the entry is touched in is that of the oldest pass-end notice that waits, else the
patrol's, where R102 and R104 name the current pass number (notes/assumptions/29.md, DEDUCED); and with nine entries REQUESTED
and a notice of the engine waiting the report is not taken yet, which no rule orders (notes/assumptions/30.md, DEDUCED). -/
def Obligations.ReportTaken : Prop :=
  ∀ (s : State) (kind : ReportKind) (origin : Reporter) (line : Nat) (rest : List Handed) (pass : BitVec 16),
    s.resetLow = false → s.inbox = .report ⟨kind, origin, line⟩ :: rest →
    ((∀ n, .passEnd n ∉ rest) ∧ pass = s.patrol.pass) ∨
      (∃ pre post, rest = pre ++ .passEnd pass :: post ∧ ∀ n, .passEnd n ∉ pre) →
      let q := line / 64
      let mustWait : Prop :=
        9 ≤ s.suspects.countP (fun e => e.status = .requested) ∧ ∃ r, .stranded r ∈ rest ∨ .removal r ∈ rest
      let taken : State := { s with inbox := rest }
      let a : State :=
        match kind with
        | .corrected k => if s.mgmt.params.eventCorrected then taken.logEvent (.corrected line k origin) else taken
        | _ => taken
      let updated (e : Suspect) : Suspect :=
        let u : Suspect :=
          match kind with
          | .corrected k =>
            { e with
              count := min (e.count + 1) 255, touched := pass, lastSymbol := some k
              spread := e.spread || decide (∃ l, e.lastSymbol = some l ∧ l ≠ k) }
          | .transient => { e with count := min (e.count + 1) 255, touched := pass }
          | .uncorrectable => { e with ue := true }
        if e.status = .stranded ∧ SpareState.free ∈ s.spares then { u with status := .watch } else u
      let fires (e : Suspect) : Prop :=
        e.status = .watch ∧ (e.ue = true ∨
          (if e.spread then max 1 (s.mgmt.params.ceThreshold / 2) else s.mgmt.params.ceThreshold) ≤ e.count)
      let put (u : State) (e : Suspect) : State := { u with suspects := u.suspects.map fun x => if x.region = q then e else x }
      (mustWait → exec .reportTaken s = .next s) ∧
      (¬ mustWait →
        ((∃ r, s.relation q = .retired r ∨ s.relation q = .inCopy r true) ∨ s.relation q = .unused →
          exec .reportTaken s = .next taken) ∧
        (∀ (e : Suspect) (u : State),
          (∃ r, s.relation q = .unmapped r ∨ s.relation q = .inService r ∨ s.relation q = .inCopy r false) →
          (s.suspectOf q = some e ∧ e.count ≤ 255 ∧ u = a) ∨
            ((∀ x ∈ s.suspects, x.region ≠ q) ∧ s.suspects.length < 32 ∧ e = ⟨q, 0, none, false, false, pass, .watch⟩ ∧
              u = { a with suspects := s.suspects ++ [e] }) →
          (¬ fires (updated e) → exec .reportTaken s = .next (put u (updated e))) ∧
          (fires (updated e) → s.mgmt.params.autoRetire = false →
            exec .reportTaken s =
              .next (put (u.logEvent (.suspectThreshold q (updated e).count)) { updated e with status := .notified })) ∧
          (fires (updated e) → s.mgmt.params.autoRetire = true →
            (∀ r, s.relation q = .inCopy r false → exec .reportTaken s = .next (put u (updated e))) ∧
            (∀ r k, (s.relation q = .unmapped r ∧ k = .retire) ∨ (s.relation q = .inService r ∧ k = .replace) →
              ((∃ x ∈ s.queue, x.region = r) ∨ (∃ x ∈ s.map, x.region = r ∧ x.isCopying = true) →
                exec .reportTaken s = .next (put u { updated e with status := .requested })) ∧
              ((∀ x ∈ s.queue, x.region ≠ r) → (∀ x ∈ s.map, x.isCopying = true → x.region ≠ r) →
                (8 ≤ s.queue.length →
                  exec .reportTaken s = .next ((put u (updated e)).logEvent (.retireRefused r))) ∧
                (s.queue.length < 8 →
                  exec .reportTaken s = .next
                    (put (State.logEvent { u with queue := s.queue ++ [⟨r, k, .health⟩] } (.retireQueued r k .health))
                      { updated e with status := .requested })))))))

/-- A CORRECTED report for a new region with a full table (R103), EVENT_CORRECTED off and CE_THRESHOLD at least 2, so that it
does not fire: the candidate of lowest count, then greatest age, then lowest position gives way; with every entry REQUESTED the
report is dropped. Two points are the model's readings, not the spec's words: the pass in which the new entry is touched
is that of the oldest pass-end notice still waiting, where R102 names the current pass number (notes/assumptions/29.md, DEDUCED),
and a report that would find 9 entries REQUESTED waits for the STRANDED and removal notices behind it
(notes/assumptions/30.md, DEDUCED). -/
def Obligations.FullTableEvicts : Prop :=
  ∀ (s : State) (k : Nat) (origin : Reporter) (line : Nat) (rest : List Handed) (pass : BitVec 16), s.resetLow = false →
    s.inbox = .report ⟨.corrected k, origin, line⟩ :: rest → s.mgmt.params.eventCorrected = false →
    2 ≤ s.mgmt.params.ceThreshold → (∃ r, s.relation (line / 64) = .unmapped r ∨ s.relation (line / 64) = .inService r) →
    32 ≤ s.suspects.length → (s.suspects.map (·.region)).Nodup → (∀ e ∈ s.suspects, e.region ≠ line / 64) →
    (s.suspects.countP (fun e => e.status = .requested) < 9 ∨ ∀ r, .stranded r ∉ rest ∧ .removal r ∉ rest) →
    ((∀ n, .passEnd n ∉ rest) ∧ pass = s.patrol.pass) ∨
      (∃ pre post, rest = pre ++ .passEnd pass :: post ∧ ∀ n, .passEnd n ∉ pre) →
      let age (e : Suspect) : Nat := (s.patrol.pass - e.touched).toNat
      let a : State := { s with inbox := rest }
      ((∀ e ∈ s.suspects, e.status = .requested) →
        exec .reportTaken s = .next (a.logEvent (.suspectEvicted (line / 64) 0))) ∧
      (∀ pre b post, s.suspects = pre ++ b :: post → b.status ≠ .requested →
        (∀ x ∈ pre, x.status ≠ .requested → b.count < x.count ∨ b.count = x.count ∧ age x < age b) →
        (∀ x ∈ post, x.status ≠ .requested → b.count < x.count ∨ b.count = x.count ∧ age x ≤ age b) →
          exec .reportTaken s = .next
            (State.logEvent
              { a with suspects := pre ++ post ++ [⟨line / 64, 1, some k, false, false, pass, .watch⟩] }
              (.suspectEvicted b.region b.count)))

/-- The notices (R108 to R110), each the oldest thing handed: a pass end halves the WATCH and NOTIFIED entries not touched in
the pass and removes those at 0 without ue flag; a STRANDED notice makes its entry STRANDED; a removal notice removes it. That
the STRANDED notice takes a WATCH or NOTIFIED entry too is R108's word, which the model follows against R100's table, where a
NOTIFIED entry is left by removal alone (notes/assumptions/35.md, DEDUCED). -/
def Obligations.NoticesTaken : Prop :=
  ∀ (s : State) (rest : List Handed), s.resetLow = false →
    (∀ n, s.inbox = .passEnd n :: rest →
      exec .passEndNotice s = .next
        { s with
          inbox := rest
          suspects := s.suspects.filterMap fun e =>
            if e.status = .requested ∨ e.status = .stranded then some e
            else
              let e' : Suspect := if e.touched = n then e else { e with count := e.count / 2 }
              if e'.count = 0 ∧ e'.ue = false then none else some e' }) ∧
    (∀ q, s.inbox = .stranded q :: rest →
      exec .strandedNotice s = .next
        { s with
          inbox := rest
          suspects := s.suspects.map fun e => if e.region = q then { e with status := .stranded } else e }) ∧
    (∀ q, s.inbox = .removal q :: rest →
      exec .removalNotice s = .next { s with inbox := rest, suspects := s.suspects.filter fun e => e.region ≠ q })

/-- The law of the Suspect Table (R99): at most 32 entries for distinct physical regions, with counts of at most 255, which every
command keeps from every state that has it; and at most 9 of them REQUESTED, each standing for a queued request, the job of the
COPYING entry or a notice not yet taken, which every command keeps from every state that has the laws of the map, the queue and
the engine too. -/
def Obligations.SuspectLawKept : Prop :=
  ∀ (c : Instr) (s t : State), SuspectLaw s → exec c s = .next t →
    SuspectLaw t ∧ (ControlLaw s → RepairLaw s → RequestedLaw s → RequestedLaw t)

/-! ### Reading and clearing records (chapters 6 to 9 and 12) -/

/-- The commands that read a record reply from the state as it stands and change nothing else (R111, R118, R127, R140, R148,
R152, R176, R177, R180). The bytes of IDENTIFY, STATUS, SUSPECT_READ, EVENT_PEEK and SUMMARY_READ are those of R188 to R190; the
counters stand in the order of R151. The bytes of PATROL_STATUS (with the position, a host line, in 4 bytes where R186 lists
position as 1), CONFIG_GET and DIAG_READ, which 12.6 does not lay out, are the model's reading of R118, R177 and R180 by R175 and
R186 (notes/assumptions/17.md, DEDUCED). -/
def Obligations.RecordReadsReply : Prop :=
  ∀ s : State, s.resetLow = false →
    let counts (k : PassCounts) : List Byte :=
      le 4 k.checked ++ le 4 k.corrected ++ le 4 k.uncorrectable ++ le 4 k.poisoned ++ le 4 k.skipped ++ le 4 k.timeouts
    exec .identify s = .next (s.reply .done [0x5A, 0x40, 0x22, 0x01, 0x00, 0x01, 0x08, 0x40]) ∧
    exec .status s = .next
      (s.reply .done
        ([s.bridge.state.code, s.engine.code, flagByte s.patrol.running, flagByte s.ev.alertLow, byte s.ev.queue.length] ++
          le 2 s.ev.lost ++ le 2 (s.spares.countP (· = .free)) ++ le 2 s.map.length ++
          [byte s.queue.length, flagByte s.link.quiesce, byte s.mem.faults, byte s.mem.quarantine.length,
            flagByte s.mgmt.diag.isSome])) ∧
    (∀ id : Byte, exec (.configGet id) s = .next
      (match s.mgmt.params.get id.toNat with
        | some v => s.reply .done (id :: le 4 v)
        | none => s.reply .badParam [])) ∧
    (∀ x : Byte, exec (.suspectRead x) s = .next
      (if 31 < x.toNat then s.reply .range []
       else match s.suspects[x.toNat]? with
        | none => s.reply .notFound [byte s.suspects.length]
        | some e =>
          s.reply .done
            ([byte s.suspects.length] ++ le 4 e.region ++ [byte e.count] ++ leOpt 1 e.lastSymbol ++
              [flagByte e.spread, flagByte e.ue] ++ le 2 e.touched.toNat ++ [e.status.code]))) ∧
    exec .patrolStatus s = .next
      (s.reply .done
        ([flagByte s.patrol.running] ++ le 4 s.patrol.position ++ le 2 s.patrol.pass.toNat ++ counts s.patrol.counts ++
          [match s.patrol.visit with | some v => v.phase.code | none => 0x00])) ∧
    exec .summaryRead s = .next
      (s.reply .done
        ([flagByte s.patrol.summaryValid] ++ le 2 s.patrol.summary.pass.toNat ++ counts s.patrol.summary.counts ++
          [byte s.patrol.missed])) ∧
    exec .eventPeek s = .next
      (match s.ev.queue with
        | [] => s.reply .empty [0x00]
        | r :: _ =>
          s.reply .done
            (le 2 r.seq.toNat ++ [r.event.code] ++ le 2 r.pass.toNat ++ leOpt 4 r.event.valueA ++ leOpt 4 r.event.valueB ++
              leOpt 4 r.event.valueC ++ [byte s.ev.queue.length] ++ le 2 s.ev.lost)) ∧
    exec .countersRead s = .next
      (s.reply .done
        (le 4 s.ev.counters.hostReads ++ le 4 s.ev.counters.hostWrites ++ le 4 s.ev.counters.hostPartials ++
          le 4 s.ev.counters.respCorrected ++ le 4 s.ev.counters.respPoisoned ++ le 4 s.ev.counters.ueFinal ++
          le 4 s.ev.counters.transients ++ le 4 s.ev.counters.retryReads ++ le 4 s.ev.counters.dsTimeouts ++
          le 4 s.ev.counters.lateAnswers ++ le 4 s.ev.counters.tagClashes ++ le 4 s.ev.counters.discarded)) ∧
    (∀ o n : Byte, exec (.diagRead o n) s = .next
      (if o.toNat ≤ 71 ∧ 1 ≤ n.toNat ∧ n.toNat ≤ 16 ∧ o.toNat + n.toNat ≤ 72 then
        if s.mgmt.view.valid then
          s.reply .done
            (le 4 s.mgmt.view.line ++ [s.mgmt.view.cls.code] ++
              (List.range n.toNat).map fun i => symbolAt s.mgmt.view.symbols (o.toNat + i))
        else s.reply .badState []
       else s.reply .range []))

/-- The commands that clear, and those that exchange or read once and then clear (R112, R127, R140, R152, R180): the reply
carries what stood before, and only the record named is changed. The bytes of CONTAIN_READ and SUMMARY_CLEAR are those of
R190; the counters stand in the order of R151. The reply bytes of DIAG_SWAP, which 12.6 does not lay out, are the model's
reading of R180 by R175 and R186 (notes/assumptions/17.md, DEDUCED). -/
def Obligations.RecordClearsReply : Prop :=
  ∀ s : State, s.resetLow = false →
    let history (h : List BridgeState) : List Byte := (List.range 4).map fun i =>
      match h[i]? with
      | some .standby => 0x00
      | some .format => 0x01
      | some .online => 0x02
      | some .degraded => 0x03
      | some .contain => 0x04
      | none => 0xFF
    let cause (c : Cause) : Byte := match c with | .dsFaultLimit => 0x00 | .dsStuck => 0x01 | .uePolicy => 0x02 | .forced => 0x03
    exec .summaryClear s = .next
      (State.reply { s with patrol := { s.patrol with summaryValid := false, missed := 0 } } .done [byte s.patrol.missed]) ∧
    exec .countersClear s = .next
      (State.reply { s with ev := { s.ev with counters := ⟨0, 0, 0, 0, 0, 0, 0, 0, 0, 0, 0, 0⟩ } } .done
        (le 4 s.ev.counters.hostReads ++ le 4 s.ev.counters.hostWrites ++ le 4 s.ev.counters.hostPartials ++
          le 4 s.ev.counters.respCorrected ++ le 4 s.ev.counters.respPoisoned ++ le 4 s.ev.counters.ueFinal ++
          le 4 s.ev.counters.transients ++ le 4 s.ev.counters.retryReads ++ le 4 s.ev.counters.dsTimeouts ++
          le 4 s.ev.counters.lateAnswers ++ le 4 s.ev.counters.tagClashes ++ le 4 s.ev.counters.discarded)) ∧
    (∀ x : Byte,
      let bytes : List Byte :=
        (match s.bridge.record with
          | none => 0x00 :: List.replicate 13 0xFF
          | some r =>
            [if r.valid then 0x02 else 0x01, cause r.cause] ++
              (match r.line with | some p => le 4 p | none => [0xFF, 0xFF, 0xFF, 0xFF]) ++ history r.history ++
              le 2 r.pass.toNat ++ [byte r.laterCount, match r.latestLater with | some c => cause c | none => 0xFF]) ++
          history s.bridge.history
      exec (.containRead x) s = .next
        (if x = 0x00 then s.reply .done bytes
         else if x = 0x01 then
          State.reply { s with bridge := { s.bridge with record := s.bridge.record.map fun r => { r with valid := false } } }
            .done bytes
         else s.reply .badParam [])) ∧
    (∀ (x : Byte) (region : BitVec 32),
      let q := region.toNat
      (x ≠ 0x00 → x ≠ 0x01 → exec (.suspectClear x region) s = .next (s.reply .badParam [])) ∧
      (s.P ≤ q → exec (.suspectClear 0x00 region) s = .next (s.reply .range [])) ∧
      (q < s.P → (∀ e ∈ s.suspects, e.region ≠ q) →
        exec (.suspectClear 0x00 region) s = .next (s.reply .notFound [])) ∧
      (∀ e, q < s.P → s.suspectOf q = some e →
        exec (.suspectClear 0x00 region) s = .next
          (if e.status = .requested then s.reply .badState []
           else State.reply { s with suspects := s.suspects.filter fun x => x.region ≠ q } .done [])) ∧
      exec (.suspectClear 0x01 region) s = .next
        (if ∃ e ∈ s.suspects, e.status = .requested then s.reply .badState []
         else State.reply { s with suspects := [] } .done [byte s.suspects.length])) ∧
    exec .diagSwap s = .next
      (if s.mgmt.diag.isSome then s.reply .busy []
       else
        State.reply { s with mgmt := { s.mgmt with view := s.mgmt.fill, fill := s.mgmt.view } } .done
          [flagByte s.mgmt.fill.valid, s.mgmt.fill.cls.code])

/-! ### Patrol Scrubber (chapter 7) -/

/-- PATROL_START and PATROL_STOP change the running flag, the timer and visit due alone (R116, R117). The interval timer runs
out (R115, R119, R120, R124): with a visit in progress a visit becomes due; in service a visit of
the position starts, skipped when its region is under copy, else reading its line under the hold; otherwise the timer stops. -/
def Obligations.PatrolPace : Prop :=
  (∀ s : State, s.resetLow = false →
    exec .patrolStart s = .next
      (if ¬ (s.bridge.state = .online ∨ s.bridge.state = .degraded) then s.reply .badState []
       else if s.patrol.running then s.reply .already []
       else
        State.reply
          { s with
            patrol :=
              { s.patrol with running := true, due := false, timer := .running s.mgmt.params.patrolIntervalUs } }
          .done []) ∧
    exec .patrolStop s = .next
      (State.reply { s with patrol := { s.patrol with running := false, due := false, timer := .stopped } } .done [])) ∧
  ∀ (s : State) (us : Nat), s.resetLow = false → s.patrol.timer = .running us →
    let h := s.patrol.position
    let restarted : Timer := .running s.mgmt.params.patrolIntervalUs
    (s.patrol.running = false ∨ s.bridge.state = .contain →
      exec .intervalTimerRunOut s = .next { s with patrol := { s.patrol with timer := .stopped } }) ∧
    (∀ v, s.patrol.running = true → s.bridge.state ≠ .contain → s.patrol.visit = some v →
      exec .intervalTimerRunOut s = .next { s with patrol := { s.patrol with timer := .runOut, due := true } }) ∧
    (s.patrol.running = true → s.patrol.visit = none → s.bridge.state = .online ∨ s.bridge.state = .degraded →
      ((∃ e, findEntry s.map (h / 64) = some e ∧ e.isCopying = true) → h + 1 < s.V * 64 →
        exec .intervalTimerRunOut s = .next
          { s with
            patrol :=
              { s.patrol with
                timer := restarted, position := h + 1
                counts := { s.patrol.counts with skipped := s.patrol.counts.skipped + 1 } } }) ∧
      (∀ t, (∀ e, findEntry s.map (h / 64) = some e → e.isCopying = false) → s.KeyFree (.host h) →
        s.KeyFree (.phys (translate s.V s.map h)) → s.CanIssue t →
          exec .intervalTimerRunOut s = .next
            (State.issued
              { s with
                patrol :=
                  { s.patrol with
                    timer := restarted, visit := some ⟨h, some (translate s.V s.map h), .read, 1, .none⟩ }
                order := s.order.append (.host h) .patrol true }
              t .patrol .mrd (translate s.V s.map h))))

/-- A visit of a line before the last goes on or ends (R121 to R124). In service, no visit being due: a read that is CLEAN or
POISON ends it; CORRECTED and a final UNCORRECTABLE report and write; an UNCORRECTABLE outcome is read again while the retries
made are below READ_RETRIES; a retry that succeeds is a transient; the acknowledgement of the write ends it with the counts of
the outcome it followed, and a timeout of any of its operations ends it with timeouts + 1 as well. With a visit due the next
visit starts at once, skipped when its region is under copy. In CONTAIN the operation in flight ends the visit without retry or
write, an UNCORRECTABLE read counted as checked only, and the running flag is cleared (R128). -/
def Obligations.VisitReadAnswered : Prop :=
  ∀ (s : State) (v : Visit) (p : Nat) (g t : Fin 64) (line : Nat),
    s.patrol.visit = some v → v.phys = some p → s.patrol.position + 1 < s.V * 64 →
      let gen := s.mem.generation
      let a := s.answered g
      let recorded (k : ReportKind) : State :=
        if v.phase = .retry then (a.handedOver (.report ⟨.transient, .patrol, p⟩)).logEvent (.transient p v.attempts .patrol)
        else match k with
          | .corrected _ => a.handedOver (.report ⟨k, .patrol, p⟩)
          | _ => a
      let checked (k : PassCounts) : PassCounts := { k with checked := k.checked + 1 }
      let timeout (k : PassCounts) : PassCounts := { v.tally.counted k with timeouts := k.timeouts + 1 }
      let poisoned (k : PassCounts) : PassCounts := { k with checked := k.checked + 1, poisoned := k.poisoned + 1 }
      let stopped (u : State) : State := { u with patrol := { u.patrol with running := false } }
      let writes (u : State) (x : Tally) (cw : Codeword) : State :=
        State.issued { u with patrol := { u.patrol with visit := some { v with phase := .write, tally := x } } } t .patrol
          (.mwr cw) p
      (s.bridge.state = .online ∨ s.bridge.state = .degraded → s.NoneWaits →
        (s.patrol.due = false →
          (∀ w, v.phase = .read ∨ v.phase = .retry → s.Awaits g .patrol .mrd line → a.CanIssue t →
            exec (.readData gen g w) s = .next
              (match classify w with
                | .clean _ => (recorded .transient).visitDone checked
                | .poison => a.visitDone poisoned
                | .corrected k cw => writes (recorded (.corrected k)) .corrected cw
                | .uncorrectable =>
                  if v.attempts - 1 < s.mgmt.params.readRetries then
                    State.issued
                      { a with
                        patrol := { a.patrol with visit := some { v with phase := .retry, attempts := v.attempts + 1 } } } t
                      .patrol .mrd p
                  else
                    ((writes a .uncorrectable (poisonMark (Vector.replicate 64 0))).handedOver
                      (.report ⟨.uncorrectable, .patrol, p⟩)).logEvent (.uncorrectable p (some v.line) .patrolPoisoned))) ∧
          (∀ w, s.Awaits g .patrol (.mwr w) line →
            exec (.writeAck gen g) s = .next (a.visitDone v.tally.counted)) ∧
          (∀ kind, s.Awaits g .patrol kind line →
            exec (.memoryTimeout g) s = .next ((s.visitDone timeout).timedOut g kind line .patrol))) ∧
        (∀ w d, s.patrol.due = true → s.patrol.running = true → v.phase = .read → s.Awaits g .patrol .mrd line →
          classify w = .clean d →
            let h := s.patrol.position + 1
            let u := a.visitDone checked
            let started : Patrol :=
              { u.patrol with timer := .running s.mgmt.params.patrolIntervalUs, due := false }
            (∀ e, findEntry s.map (h / 64) = some e → e.isCopying = true → h + 1 < s.V * 64 →
              exec (.readData gen g w) s = .next
                { u with
                  patrol :=
                    { started with
                      position := h + 1, counts := { started.counts with skipped := started.counts.skipped + 1 } } }) ∧
            ((∀ e, findEntry s.map (h / 64) = some e → e.isCopying = false) → s.KeyFree (.host h) →
              s.KeyFree (.phys (translate s.V s.map h)) → a.CanIssue t →
                exec (.readData gen g w) s = .next
                  (State.issued
                    { u with
                      patrol := { started with visit := some ⟨h, some (translate s.V s.map h), .read, 1, .none⟩ }
                      order := u.order.append (.host h) .patrol true }
                    t .patrol .mrd (translate s.V s.map h))))) ∧
      (s.bridge.state = .contain →
        (∀ w, v.phase = .read ∨ v.phase = .retry → s.Awaits g .patrol .mrd line →
          exec (.readData gen g w) s = .next
            (match classify w with
              | .clean _ => stopped ((recorded .transient).visitDone checked)
              | .poison => stopped (a.visitDone poisoned)
              | .corrected k _ => stopped ((recorded (.corrected k)).visitDone Tally.corrected.counted)
              | .uncorrectable => stopped (a.visitDone checked))) ∧
        (∀ w, s.Awaits g .patrol (.mwr w) line →
          exec (.writeAck gen g) s = .next (stopped (a.visitDone v.tally.counted))) ∧
        (∀ kind, s.Awaits g .patrol kind line →
          exec (.memoryTimeout g) s = .next ((stopped (s.visitDone timeout)).timedOut g kind line .patrol)))

/-- The visit of the last line ends, and with it the pass (R124 to R126): position 0, the next pass number, PASS_DONE, the
pass-end notice, the figures offered to the summary, the counts 0, in that order. It ends so after a CLEAN first read, in service
or in CONTAIN, after a timeout, and when it is skipped at its start. -/
def Obligations.PassEnds : Prop :=
  ∀ s : State, s.resetLow = false → s.patrol.position + 1 = s.V * 64 →
    let n := s.patrol.pass
    let passEnded (u : State) (counts : PassCounts) : State :=
      let walked : Patrol := { u.patrol with visit := none, position := 0, pass := n + 1, counts := PassCounts.zero }
      State.handedOver
        (State.logEvent
          { u with
            patrol :=
              if s.patrol.summaryValid then
                { walked with missed := if s.patrol.missed < 255 then s.patrol.missed + 1 else s.patrol.missed }
              else { walked with summary := ⟨n, counts⟩, summaryValid := true } }
          (.passDone n))
        (.passEnd n)
    let checked : PassCounts := { s.patrol.counts with checked := s.patrol.counts.checked + 1 }
    (∀ (v : Visit) (g : Fin 64) (line : Nat), s.patrol.visit = some v →
      let released (u : State) : State := { u with order := s.order.without .patrol }
      (∀ w d, v.phase = .read → s.Awaits g .patrol .mrd line → classify w = .clean d →
        (s.bridge.state = .online ∨ s.bridge.state = .degraded → s.NoneWaits → s.patrol.due = false →
          exec (.readData s.mem.generation g w) s = .next (passEnded (released (s.answered g)) checked)) ∧
        (s.bridge.state = .contain →
          exec (.readData s.mem.generation g w) s = .next
            (let u := passEnded (released (s.answered g)) checked
             { u with patrol := { u.patrol with running := false } }))) ∧
      (∀ kind, s.Awaits g .patrol kind line → s.bridge.state = .online ∨ s.bridge.state = .degraded → s.NoneWaits →
        s.patrol.due = false →
          exec (.memoryTimeout g) s = .next
            ((passEnded (released s)
              { v.tally.counted s.patrol.counts with timeouts := s.patrol.counts.timeouts + 1 }).timedOut g kind line
              .patrol))) ∧
    (∀ us e, s.patrol.timer = .running us → s.patrol.running = true → s.patrol.visit = none →
      s.bridge.state = .online ∨ s.bridge.state = .degraded →
      findEntry s.map (s.patrol.position / 64) = some e → e.isCopying = true →
        exec .intervalTimerRunOut s = .next
          (passEnded { s with patrol := { s.patrol with timer := .running s.mgmt.params.patrolIntervalUs } }
            { s.patrol.counts with skipped := s.patrol.counts.skipped + 1 }))

/-! ### Bridge Control (chapter 8) -/

/-- START (R132, R133): refused outside STANDBY; KEEP goes to ONLINE, raising DS_STUCK when the quarantine holds 28 tags or more
(R169). FORMAT goes to FORMAT, raising DS_STUCK likewise; with the hold table empty it asks for the write of line 0, else it waits
for the table to become empty (R75). A hold that waits is withdrawn: a diagnostic operation ends with FILL as it was, a spare
test ABANDONED (R58, R75, R184). A deferred request ends as TIMEOUT for its owner (R170): a fetch fills FILL with zero symbols and
TIMEOUT, a store writes no buffer, a spare test ends ABANDONED. That STATE_CHANGED is logged before that test's SPARE_TESTED is the
model's choice, which R146 leaves open (notes/assumptions/11.md, DESIGN CHOICE). -/
def Obligations.StartLeavesStandby : Prop :=
  ∀ s : State, s.resetLow = false →
    (s.bridge.state ≠ .standby →
      exec .startKeep s = .next (s.reply .badState []) ∧ exec .startFormat s = .next (s.reply .badState [])) ∧
    (s.bridge.state = .standby →
      exec .startKeep s = .next
        (let u := s.changeBridge .online
         State.reply
           (if 28 ≤ s.mem.quarantine.length then
             { u with bridge := { u.bridge with fromMemory := u.bridge.fromMemory ++ [⟨.dsStuck, none⟩] } }
            else u)
           .done []) ∧
      ∀ t, s.mem.NextTag t →
        let entered : State :=
          let u := s.changeBridge .format
          { u with
            bridge :=
              { u.bridge with
                cursor := some ⟨0, true⟩
                fromMemory := u.bridge.fromMemory ++
                  (if 28 ≤ s.mem.quarantine.length then [⟨.dsStuck, none⟩] else []) } }
        let answers (u : State) : Prop := exec .startFormat s = .next ((u.drained t).reply .accepted [])
        (s.NoneWaits → s.mem.deferred = [] → answers entered) ∧
        (∀ pre e post, s.order.entries = pre ++ e :: post → e.active = false → (∀ x ∈ pre ++ post, x.active = true) →
          s.mem.deferred = [] →
            let u : State := { entered with order := { s.order with entries := pre ++ post } }
            (e.owner = .diag → answers { u with mgmt := { s.mgmt with diag := none } }) ∧
            (∀ j, e.owner = .engine → s.engine = .testing j →
              answers (State.logEvent
                { u with
                  spares := s.spares.set j.index j.before, lastTest := some (j.index, .abandoned), engine := .idle }
                (.spareTested j.index .abandoned)))) ∧
        (∀ k line, s.NoneWaits →
          let u : State := { entered with mem := { s.mem with deferred := [] } }
          (∀ d, s.mem.deferred = [⟨.diag, k, line⟩] → s.mgmt.diag = some d →
            answers
              { u with
                order := s.order.without .diag
                mgmt :=
                  { s.mgmt with
                    diag := none
                    fill :=
                      if d.kind = .fetch then ⟨⟨Vector.replicate 64 0, Vector.replicate 8 0⟩, d.line, .timeout, true⟩
                      else s.mgmt.fill } }) ∧
          (∀ j, s.mem.deferred = [⟨.engine, k, line⟩] → s.engine = .testing j →
            answers (u.testEnded j.index .abandoned j.before))))

/-- The format's writes (R133): an acknowledgement below the last line writes the next line, that of the last line logs
FORMAT_DONE and goes to ONLINE; a timeout writes the same line again, under another tag, or waits on the deferred list with 28
tags in quarantine (R170). In CONTAIN the write in flight ends with nothing further (R134). That the repeated write meets the
quarantine without the timed-out tag is the model's reading of R167 (notes/assumptions/38.md, DEDUCED). -/
def Obligations.FormatWritesEveryLine : Prop :=
  ∀ (s : State) (n : Nat) (g t : Fin 64) (line : Nat),
    let zeros : MemKind := .mwr ⟨Vector.replicate 64 0, Vector.replicate 8 0⟩
    (s.bridge.state = .format → s.bridge.cursor = some ⟨n, false⟩ →
      (∀ w, s.Awaits g .format (.mwr w) line →
        (n + 1 ≠ s.P * 64 → (s.answered g).CanIssue t →
          exec (.writeAck s.mem.generation g) s = .next
            (State.issued { s.answered g with bridge := { s.bridge with cursor := some ⟨n + 1, false⟩ } } t .format zeros
              (n + 1))) ∧
        (n + 1 = s.P * 64 →
          exec (.writeAck s.mem.generation g) s = .next
            (let u := ((s.answered g).logEvent .formatDone).changeBridge .online
             { u with bridge := { u.bridge with cursor := none } }))) ∧
      (∀ kind, s.Awaits g .format kind line →
        (s.CanIssue t →
          exec (.memoryTimeout g) s = .next ((s.issued t .format zeros n).timedOut g kind line .format)) ∧
        (28 ≤ s.mem.quarantine.length →
          exec (.memoryTimeout g) s = .next
            (State.timedOut { s with mem := { s.mem with deferred := s.mem.deferred ++ [⟨.format, zeros, n⟩] } } g kind line
              .format)))) ∧
    (s.bridge.state = .contain →
      (∀ w, s.Awaits g .format (.mwr w) line → exec (.writeAck s.mem.generation g) s = .next (s.answered g)) ∧
      (∀ kind, s.Awaits g .format kind line → exec (.memoryTimeout g) s = .next (s.timedOut g kind line .format)))

/-- Entry into CONTAIN (R136, R137, R141) from FORMAT, ONLINE or DEGRADED, by a request of another block or by FORCE_CONTAIN: the
state left is pushed, the record is that of this entry, STATE_CHANGED and CONTAINED are logged in that order, ALERT_N is low,
no hold waits any more, the deferred list is empty, no memory operation is issued, and the map, the generation and the
parameters are as they were. A copy job is HALTED at once (R54); the interval timer stops, no visit is due, and with no visit in
progress the patrol no longer runs (R128). -/
def Obligations.ContainmentEntered : Prop :=
  ∀ (s : State) (r : ContainRequest) (c : Instr), s.resetLow = false →
    s.bridge.state = .format ∨ s.bridge.state = .online ∨ s.bridge.state = .degraded →
    (c = .forceContain ∧ r = ⟨.forced, none⟩) ∨
      (∃ rest, c = .containmentRequest .memoryPort ∧ s.bridge.fromMemory = r :: rest) ∨
      (∃ rest, c = .containmentRequest .requestHandler ∧ s.bridge.fromHandler = r :: rest) →
      ∃ t, exec c s = .next t ∧ t.bridge.state = .contain ∧
        t.bridge.history = (s.bridge.state :: s.bridge.history).take 4 ∧
        t.bridge.record = some ⟨true, r.cause, r.line, t.bridge.history, s.patrol.pass, 0, none⟩ ∧
        t.bridge.cursor = none ∧
        (s.ev.queue.length ≤ 62 →
          s.ev.queue ++
              [⟨s.ev.nextSeq, s.patrol.pass, .stateChanged s.bridge.state .contain⟩,
                ⟨s.ev.nextSeq + 1, s.patrol.pass, .contained r.cause⟩] <+: t.ev.queue) ∧
        t.ev.alertLow = true ∧ t.NoneWaits ∧ t.mem.deferred = [] ∧ t.mem.active = s.mem.active ∧
        t.memOut = s.memOut ∧ t.map = s.map ∧ t.queue = s.queue ∧ t.suspects = s.suspects ∧
        t.mem.generation = s.mem.generation ∧ t.mgmt.params = s.mgmt.params ∧
        (∀ j, s.engine = .copying j ∨ s.engine = .suspended j → t.engine = .halted { j with phase := .none }) ∧
        t.patrol.timer = .stopped ∧ t.patrol.due = false ∧ (s.patrol.visit = none → t.patrol.running = false) ∧
        t.mgmt.reply = (if c = .forceContain then ⟨.done, []⟩ else s.mgmt.reply)

/-- At entry into CONTAIN whatever waits for its hold has it withdrawn, at once and without memory work (R74): a host operation is
answered FAILED and its tag is FREE, an orphan is not answered (R95, R97); a visit is not made, with its counts and position as
they were, and the patrol no longer runs (R128); a copy job is HALTED (R54); a spare test ends ABANDONED (R58); a diagnostic
operation ends with FILL as it was (R184). Here the one hold that waits, with nothing deferred. -/
def Obligations.WaitingRequestFailsAtContainment : Prop :=
  ∀ (s : State) (pre post : List Hold) (e : Hold), s.resetLow = false →
    s.bridge.state = .online ∨ s.bridge.state = .degraded → s.mem.deferred = [] →
    s.order.entries = pre ++ e :: post → e.active = false →
    (∀ x ∈ pre ++ post, x.active = true ∧ x.owner ≠ e.owner) →
      ∃ t, exec .forceContain s = .next t ∧ t.order.entries = pre ++ post ∧ t.memOut = s.memOut ∧ t.mem = s.mem ∧
        (∀ op, e.owner = .host op.tag → s.opOf op.tag = some op →
          t.ops = s.ops.filter (fun o => o.tag ≠ op.tag) ∧
          (op.orphan = false →
            t.hostOut = s.hostOut ++
              [⟨op.tag, .failed, match op.req with | .rd => some (Vector.replicate 64 0) | _ => none⟩] ∧
            t.link.busy = s.link.busy.filter (fun x => x ≠ op.tag)) ∧
          (op.orphan = true → t.hostOut = s.hostOut)) ∧
        (e.owner = .patrol → t.hostOut = s.hostOut ∧
          t.patrol = { s.patrol with running := false, timer := .stopped, due := false, visit := none }) ∧
        (∀ j, e.owner = .engine → s.engine = .copying j → t.engine = .halted { j with phase := .none }) ∧
        (∀ j, e.owner = .engine → s.engine = .testing j →
          t.engine = .idle ∧ t.lastTest = some (j.index, .abandoned) ∧ t.spares = s.spares.set j.index j.before ∧
            (s.ev.queue.length ≤ 61 →
              t.ev.queue = s.ev.queue ++
                [⟨s.ev.nextSeq, s.patrol.pass, .stateChanged s.bridge.state .contain⟩,
                  ⟨s.ev.nextSeq + 1, s.patrol.pass, .contained .forced⟩,
                  ⟨s.ev.nextSeq + 2, s.patrol.pass, .spareTested j.index .abandoned⟩])) ∧
        (e.owner = .diag → t.mgmt = { s.mgmt with diag := none, reply := ⟨.done, []⟩ })

/-- R139: a containment request taken in CONTAIN is a later cause: the count rises, saturating at 255, the latest later cause is
the request's, and nothing else changes, whether or not the record's valid flag is set; R136: one taken in STANDBY is
discarded. FORCE_CONTAIN replies ALREADY and BAD_STATE (R141). -/
def Obligations.LaterCauseCounted : Prop :=
  ∀ (s : State) (r : ContainRequest) (rest : List ContainRequest), s.resetLow = false →
    let later (u : State) (k : Cause) : State :=
      { u with
        bridge :=
          { u.bridge with
            record := u.bridge.record.map fun x =>
              { x with laterCount := if x.laterCount < 255 then x.laterCount + 1 else x.laterCount, latestLater := some k } } }
    (s.bridge.state = .contain →
      exec .forceContain s = .next ((later s .forced).reply .already []) ∧
      (s.bridge.fromMemory = r :: rest →
        exec (.containmentRequest .memoryPort) s =
          .next (later { s with bridge := { s.bridge with fromMemory := rest } } r.cause)) ∧
      (s.bridge.fromHandler = r :: rest →
        exec (.containmentRequest .requestHandler) s =
          .next (later { s with bridge := { s.bridge with fromHandler := rest } } r.cause))) ∧
    (s.bridge.state = .standby →
      exec .forceContain s = .next (s.reply .badState []) ∧
      (s.bridge.fromMemory = r :: rest →
        exec (.containmentRequest .memoryPort) s = .next { s with bridge := { s.bridge with fromMemory := rest } }) ∧
      (s.bridge.fromHandler = r :: rest →
        exec (.containmentRequest .requestHandler) s = .next { s with bridge := { s.bridge with fromHandler := rest } }))

/-- R138 and R170: no command but SOFT_RESET and the end of hard reset takes the bridge out of CONTAIN, and while it is there no
memory operation is issued and the state history stands; the map keeps its entries as they are (R31). -/
def Obligations.ContainmentHolds : Prop :=
  ∀ (c : Instr) (s t : State), s.bridge.state = .contain → (∀ straps, c ≠ .hardReset .rise straps) → c ≠ .softReset →
    exec c s = .next t →
      t.bridge.state = .contain ∧ t.bridge.history = s.bridge.history ∧ t.memOut = s.memOut ∧
        (∀ a ∈ t.mem.active, a ∈ s.mem.active) ∧ t.map = s.map

/-- SOFT_RESET (R142) from every state: STANDBY, with the state left pushed and logged; holds, host operations, link, Memory Port
and engine as after reset with the generation advanced; suspects REQUESTED back to WATCH; the patrol stopped at its position;
a diagnostic operation abandoned; everything else kept. -/
def Obligations.SoftResetLeaves : Prop :=
  ∀ s : State, s.resetLow = false →
    let u := s.changeBridge .standby
    exec .softReset s = .next
      { u with
        bridge := { u.bridge with cursor := none, fromMemory := [], fromHandler := [] }
        spares := (match s.engine with | .testing t => s.spares.set t.index t.before | _ => s.spares)
        queue := []
        engine := .idle
        order := ⟨[], 0, 0⟩
        ops := []
        link := ⟨false, []⟩
        mem := ⟨[], [], s.mem.generation + 1, 0, []⟩
        suspects := s.suspects.map fun e => if e.status = .requested then { e with status := .watch } else e
        inbox := []
        patrol := { s.patrol with running := false, timer := .stopped, due := false, visit := none }
        mgmt :=
          { s.mgmt with
            diag := none
            fill := if s.mgmt.diag.isSome then { s.mgmt.fill with valid := false } else s.mgmt.fill
            reply := ⟨.done, []⟩ } }

/-- HARD_RESET (R143, R173, R175, R177, R185). While RESET_N is low the part is held: at the fall ALERT_N is released, and until
the rise no other command is taken, so that no frame, host message or memory operation passes (that memory answers and expiries
are not taken either, and that the blocks keep their values until the rise, is notes/assumptions/15.md, DEDUCED). At the rise
every register is at the value the after-reset tables give, and the bus address is that of the straps. That the queue of commands
is kept is the model's own choice (notes/assumptions/13.md, DESIGN CHOICE). -/
def Obligations.HardResetValues : Prop :=
  ∀ s : State,
    (∀ straps,
      exec (.hardReset .fall straps) s = .next { s with resetLow := true, ev := { s.ev with alertLow := false } }) ∧
    (∀ c, s.resetLow = true → (∀ edge straps, c ≠ .hardReset edge straps) → exec c s = .next s) ∧
    ∀ straps, ∃ t, exec (.hardReset .rise straps) s = .next t ∧ t.resetLow = false ∧
      (t.bridge.state = .standby ∧ t.bridge.history = [] ∧ t.bridge.record = none ∧ t.bridge.cursor = none ∧
        t.bridge.fromMemory = [] ∧ t.bridge.fromHandler = []) ∧
      (t.map = [] ∧ t.spares = List.replicate 64 .free ∧ t.queue = [] ∧ t.engine = .idle ∧ t.lastTest = none) ∧
      (t.order.entries = [] ∧ t.order.nextArrival = 0 ∧ t.ops = [] ∧ t.link = ⟨false, []⟩) ∧
      (t.suspects = [] ∧ t.inbox = []) ∧
      t.patrol = ⟨false, 0, 0, .stopped, false, none, ⟨0, 0, 0, 0, 0, 0⟩, ⟨0, ⟨0, 0, 0, 0, 0, 0⟩⟩, false, 0⟩ ∧
      t.ev = ⟨[], 0, 0, false, ⟨0, 0, 0, 0, 0, 0, 0, 0, 0, 0, 0, 0⟩⟩ ∧ t.mem = ⟨[], [], 0, 0, []⟩ ∧
      t.mgmt.address.toNat = 44 + 2 * straps.addr1.toNat + straps.addr0.toNat ∧ t.mgmt.reply.bytes = [0x0A, 0x00, 0xF6] ∧
      (List.range' 1 11).map t.mgmt.params.get =
        [some 262144, some 64, some 8, some 2, some 0, some 20, some 4, some 100, some 48, some 1, some 0] ∧
      (t.mgmt.diag = none ∧ t.mgmt.view.valid = false ∧ t.mgmt.fill.valid = false ∧
        t.mgmt.view.symbols = ⟨Vector.replicate 64 0, Vector.replicate 8 0⟩ ∧ t.mgmt.view.line = 0 ∧
        t.mgmt.fill.symbols = t.mgmt.view.symbols ∧ t.mgmt.fill.line = 0) ∧
      t.pending = s.pending

/-- LINK_RESET (R73, R97, R161, R162, R185), a pulse of at least 100 ns: in QUIESCE it changes nothing; with the port UP every
WAITING host operation is dropped with its hold and no response, every other one becomes an orphan, every tag is FREE and the port
enters QUIESCE, or, with no operation left, returns to UP at once and logs PORT_QUIESCED (0). Nothing else becomes ACTIVE while on
the key of each hold dropped another hold is ACTIVE, or none is left, or what is left is held back by a PHYS hold (R67); for a
copy step also by one on its source line (notes/assumptions/34.md, DEDUCED). A pulse shorter than 10 ns is not taken. -/
def Obligations.LinkResetOrphans : Prop :=
  ∀ (s : State) (ns : Nat), s.resetLow = false →
    (ns < 10 → exec (.linkReset ns) s = .next s) ∧
    (100 ≤ ns →
      (s.link.quiesce = true → exec (.linkReset ns) s = .next s) ∧
      (s.link.quiesce = false →
        let dropped (e : Hold) : Prop := e.active = false ∧ ∃ x, e.owner = .host x
        (∀ e ∈ s.order.entries, dropped e →
          (∃ x ∈ s.order.entries, x.key = e.key ∧ x.active = true) ∨ (∀ x ∈ s.order.entries, x.key = e.key → dropped x) ∨
            (∃ y ∈ s.order.entries, (∀ n, y.owner ≠ .host n) ∧
              ∃ p, y.key = .phys p ∧ ∀ x ∈ s.order.entries, x.key = e.key → p ∈ s.touches x)) →
          let left : State :=
            { s with
              link := ⟨true, []⟩
              ops := (s.ops.filter fun o => o.phase ≠ .waitHold).map fun o => { o with orphan := true }
              order :=
                { s.order with
                  entries :=
                    (s.order.entries.filter fun e => match e.owner with | .host _ => e.active | _ => true).map fun e =>
                      match e.owner with
                      | .host _ => { e with orphan := true }
                      | _ => e
                  finished := 0 } }
          (left.ops ≠ [] → exec (.linkReset ns) s = .next left) ∧
          (left.ops = [] → exec (.linkReset ns) s =
            .next (State.logEvent { left with link := ⟨false, []⟩ } (.portQuiesced 0)))))

/-! ### Event Unit (chapter 9) -/

/-- Logging (R146, R147) and a change of the bridge state (R131): below 64 records the event is appended under the next sequence
number and the pass number in force; at 64 it is discarded and the lost count rises, saturating; the state left goes onto the
history, which keeps the newest four. EVENT_POP (R149): the head leaves; with events lost, a LOST record joins the tail and the
lost count is 0; the reply carries the record removed with fill and lost count after the pop; ALERT_N follows the new fill
(R150). -/
def Obligations.EventLoggedAndPopped : Prop :=
  (∀ (s : State) (e : Event),
    let low (b : BridgeState) (fill : Nat) : Bool := decide (s.mgmt.params.alertLevel ≤ fill ∨ b = .contain)
    (s.ev.queue.length < 64 →
      s.logEvent e =
        { s with
          ev :=
            { s.ev with
              queue := s.ev.queue ++ [⟨s.ev.nextSeq, s.patrol.pass, e⟩], nextSeq := s.ev.nextSeq + 1
              alertLow := low s.bridge.state (s.ev.queue.length + 1) } }) ∧
    (64 ≤ s.ev.queue.length →
      s.logEvent e =
        { s with
          ev :=
            { s.ev with
              lost := if s.ev.lost < 65535 then s.ev.lost + 1 else s.ev.lost
              alertLow := low s.bridge.state s.ev.queue.length } }) ∧
    ∀ b, s.changeBridge b =
      State.logEvent { s with bridge := { s.bridge with state := b, history := (s.bridge.state :: s.bridge.history).take 4 } }
        (.stateChanged s.bridge.state b)) ∧
  ∀ s : State, s.resetLow = false →
    (s.ev.queue = [] → exec .eventPop s = .next (s.reply .empty [0x00])) ∧
    (∀ r rest, s.ev.queue = r :: rest →
      let after : EventUnit :=
        if s.ev.lost = 0 then { s.ev with queue := rest }
        else
          { s.ev with
            queue := rest ++ [⟨s.ev.nextSeq, s.patrol.pass, .lost s.ev.lost⟩], nextSeq := s.ev.nextSeq + 1, lost := 0 }
      exec .eventPop s = .next
        (State.reply
          { s with
            ev :=
              { after with
                alertLow := decide (s.mgmt.params.alertLevel ≤ after.queue.length ∨ s.bridge.state = .contain) } }
          .done
          (le 2 r.seq.toNat ++ [r.event.code] ++ le 2 r.pass.toNat ++ leOpt 4 r.event.valueA ++ leOpt 4 r.event.valueB ++
            leOpt 4 r.event.valueC ++ [byte after.queue.length] ++ le 2 after.lost)))

/-- The law of the Event Queue (R144) and the rule of ALERT_N (R150): every command keeps both, from every state that has
them. -/
def Obligations.EventAndAlertLawsKept : Prop :=
  ∀ (c : Instr) (s t : State), s.ev.law → AlertLaw s → exec c s = .next t → t.ev.law ∧ AlertLaw t

/-! ### Memory Port (chapter 11) -/

/-- A host operation's memory operation times out (R82, R85, R87, R88, R90, R167, R169): the operation ends with FAILED, with
POISONED after a poison write, or silently after a write-back, and an orphan silently always (R97); in CONTAIN a poison write too
ends with FAILED (R96). Then the tag is quarantined, the count rises, DS_TIMEOUT is logged and counted, and the containment
requests are handed over, DS_FAULT_LIMIT first. -/
def Obligations.HostTimeoutQuarantines : Prop :=
  ∀ (s : State) (op : HostOp) (g : Fin 64) (kind : MemKind) (line : Nat),
    s.bridge.state = .contain ∨ (s.bridge.state = .online ∨ s.bridge.state = .degraded) ∧ s.NoneWaits →
    s.opOf op.tag = some op → op.phase ≠ .waitHold → s.Awaits g (.host op.tag) kind line →
      let ended : State :=
        match op.phase with
        | .writeback => s.opEnded op
        | .poisonWrite =>
          (s.answeredTo op (if s.bridge.state = .contain then .failed else .poisoned) (Vector.replicate 64 0)).opEnded op
        | _ => (s.answeredTo op .failed (Vector.replicate 64 0)).opEnded op
      let faults := if s.mem.faults < 255 then s.mem.faults + 1 else s.mem.faults
      let counted : State :=
        (State.logEvent
          { ended with
            mem :=
              { s.mem with
                active := s.mem.active.filter fun a => a.tag ≠ g, quarantine := s.mem.quarantine ++ [g], faults := faults } }
          (.dsTimeout line (match kind with | .mrd => .mrd | .mwr _ => .mwr) .host)).count Counters.bumpDsTimeouts
      exec (.memoryTimeout g) s = .next
        { counted with
          bridge :=
            { s.bridge with
              fromMemory := s.bridge.fromMemory ++
                (if s.mgmt.params.dsFaultLimit ≤ faults then [⟨.dsFaultLimit, some line⟩] else []) ++
                (if s.mem.quarantine.length = 27 then [⟨.dsStuck, none⟩] else []) } }

/-- A copy step's memory operation times out (R51, R167): below three timeouts the source is read again; at the third the job
is SUSPENDED, the hold released and COPY_STALLED logged, before the timeout is counted. That the third timeout suspends the
job even when it also reaches DS_FAULT_LIMIT is the model's reading of R51 against R167 (notes/assumptions/33.md, DEDUCED); that
the repeated read meets the quarantine without the timed-out tag is its reading of R167 (notes/assumptions/38.md, DEDUCED). -/
def Obligations.CopyTimeoutRetriesOrStalls : Prop :=
  ∀ (s : State) (j : CopyJob) (g t : Fin 64) (kind : MemKind) (line : Nat),
    s.bridge.state = .online ∨ s.bridge.state = .degraded → s.engine = .copying j → s.Awaits g .engine kind line →
      (j.timeouts < 2 → s.CanIssue t →
        exec (.memoryTimeout g) s = .next
          ((State.issued
            { s with
              engine := .copying { j with timeouts := j.timeouts + 1, attempts := 1, phase := .read, poison := false } }
            t .engine .mrd (j.source * 64 + j.cursor)).timedOut g kind line .engine)) ∧
      (j.timeouts = 2 → s.NoneWaits →
        exec (.memoryTimeout g) s = .next
          (State.timedOut
            (State.logEvent
              { s with
                order := s.order.without .engine
                engine := .suspended { j with timeouts := 3, attempts := 0, phase := .none, poison := false } }
              (.copyStalled j.region j.cursor))
            g kind line .engine))

/-- An answer that completes no operation (R166, R168, R170): it is counted in LATE_ANSWERS; one of the current generation to a
quarantined tag frees the tag, and when that brings the quarantine below 28 the deferred request is issued. -/
def Obligations.LateAnswerDiscarded : Prop :=
  ∀ (s : State) (gen : Byte) (g : Fin 64) (w : Codeword) (c : Instr), s.resetLow = false →
    (c = .readData gen g w ∧ ∀ a ∈ s.mem.active, a.tag = g → gen ≠ s.mem.generation ∨ a.kind ≠ .mrd) ∨
      (c = .writeAck gen g ∧ ∀ a ∈ s.mem.active, a.tag = g → gen ≠ s.mem.generation ∨ a.kind = .mrd) →
      let u := s.count Counters.bumpLateAnswers
      let freed : State := { u with mem := { s.mem with quarantine := s.mem.quarantine.filter fun x => x ≠ g } }
      (gen ≠ s.mem.generation ∨ g ∉ s.mem.quarantine → exec c s = .next u) ∧
      (gen = s.mem.generation → g ∈ s.mem.quarantine → s.mem.quarantine.Nodup →
        (s.mem.quarantine.length ≠ 28 ∨ s.bridge.state = .contain → exec c s = .next freed) ∧
        (∀ r t, s.mem.quarantine.length = 28 → s.mem.deferred = [r] → freed.CanIssue t →
          exec c s = .next
            (State.issued { freed with mem := { freed.mem with deferred := [] } } t r.owner r.kind r.line)))

/-- No tag stands for two operations (R165, R168): every command keeps the law, from every state that has it. -/
def Obligations.TagLawKept : Prop :=
  ∀ (c : Instr) (s t : State), TagLaw s → exec c s = .next t → TagLaw t

/-! ### Management Port (chapter 12) -/

/-- CONFIG_SET (R4, R178): the checks in order; a stored value is what CONFIG_GET then gives for the parameter, and every other
parameter is as before; ALERT_LEVEL re-evaluates ALERT_N (R150). A geometry change gives S FREE spares, no suspect and nothing
handed to the Health Tracker (R113), and the patrol at line 0 with its counts clear (R129); a spare test that runs ends without
event: its hold, its deferred request and its memory operation are gone, the tag in quarantine, and the engine is IDLE (R37). That
DONE carries the parameter id in one byte and the value in four is the model's reading of R178 by R175 and R186
(notes/assumptions/17.md, DEDUCED). -/
def Obligations.ConfigSetStores : Prop :=
  ∀ (id : Byte) (value : BitVec 32) (s : State), s.resetLow = false →
    let i := id.toNat
    let v := value.toNat
    let ranges : List (Nat × Nat) :=
      [(0, 0), (64, 4194304), (0, 256), (1, 255), (0, 3), (0, 1), (1, 255), (1, 15), (1, 65535), (1, 64), (0, 1), (0, 1)]
    let inRange : Prop := (ranges.getD i (0, 0)).1 ≤ v ∧ v ≤ (ranges.getD i (0, 0)).2
    let stored : State := { s with mgmt := { s.mgmt with params := s.mgmt.params.set i v } }
    let bytes : List Byte := id :: le 4 v
    let rebuilt (u : State) : State :=
      { u with
        spares := List.replicate stored.S .free, suspects := [], inbox := []
        patrol := { s.patrol with position := 0, counts := ⟨0, 0, 0, 0, 0, 0⟩ } }
    (1 ≤ i → i ≤ 11 → inRange →
      (s.mgmt.params.set i v).get i = some v ∧ ∀ k, k ≠ i → (s.mgmt.params.set i v).get k = s.mgmt.params.get k) ∧
    (i = 0 ∨ 11 < i → exec (.configSet id value) s = .next (s.reply .badParam [])) ∧
    (3 ≤ i → i ≤ 11 →
      (¬ inRange → exec (.configSet id value) s = .next (s.reply .range [])) ∧
      (inRange → i ≠ 9 → exec (.configSet id value) s = .next (stored.reply .done bytes)) ∧
      (inRange → i = 9 →
        exec (.configSet id value) s = .next
          (State.reply
            { stored with
              ev := { s.ev with alertLow := decide (v ≤ s.ev.queue.length ∨ s.bridge.state = .contain) } }
            .done bytes))) ∧
    (i = 1 ∨ i = 2 →
      (s.bridge.state ≠ .standby ∨ s.map ≠ [] → exec (.configSet id value) s = .next (s.reply .badState [])) ∧
      (s.bridge.state = .standby → s.map = [] →
        (s.mgmt.diag.isSome = true → exec (.configSet id value) s = .next (s.reply .busy [])) ∧
        (s.mgmt.diag = none →
          (¬ inRange ∨ stored.P ≤ stored.S → exec (.configSet id value) s = .next (s.reply .range [])) ∧
          (inRange → stored.S < stored.P →
            ((∀ j, s.engine ≠ .testing j) → exec (.configSet id value) s = .next ((rebuilt stored).reply .done bytes)) ∧
            (∀ j, s.engine = .testing j →
              exec (.configSet id value) s = .next
                (State.reply
                  (rebuilt
                    { stored with
                      engine := .idle
                      order := s.order.without .engine
                      mem :=
                        { s.mem with
                          active := s.mem.active.filter fun a => a.owner ≠ .engine
                          quarantine :=
                            s.mem.quarantine ++ (s.mem.active.filter fun a => a.owner = .engine).map (·.tag)
                          deferred := s.mem.deferred.filter fun r => r.owner ≠ .engine } })
                  .done bytes))))))

/-- DIAG_FETCH and DIAG_STORE (R64, R181 to R183): the checks in order; an accepted operation sets busy, and with its key free it
issues its MRD, or the MWR of the codeword formed from VIEW's data symbols, of the physical line named. -/
def Obligations.DiagnosticsAccepted : Prop :=
  ∀ (line : BitVec 32) (s : State) (t : Fin 64), s.resetLow = false →
    let p := line.toNat
    let key : Key := match servedBy s.V s.map p with | some h => .host h | none => .phys p
    let inCopy : Prop := ∃ r b, s.relation (p / 64) = .inCopy r b
    let free : Prop :=
      s.KeyFree key ∧ (∀ h, key = .host h → s.KeyFree (.phys (translate s.V s.map h))) ∧ s.CanIssue t
    let accepted (k : DiagKind) (op : MemKind) : State :=
      (State.issued
        { s with mgmt := { s.mgmt with diag := some ⟨k, p⟩ }, order := s.order.append key .diag true } t .diag op
        p).reply .accepted []
    let allowed : Prop :=
      s.bridge.state ≠ .format ∧ s.bridge.state ≠ .contain ∧ s.mgmt.diag = none ∧ p < s.P * 64 ∧ ¬ inCopy
    let idleSpare : Prop :=
      s.V ≤ p / 64 ∧ p / 64 - s.V < s.S ∧
        (s.spares[p / 64 - s.V]? = some .free ∨ s.spares[p / 64 - s.V]? = some .bad)
    (∀ c, (c = .diagFetch line ∨ c = .diagStore line 0x00 ∨ c = .diagStore line 0x01) →
      (s.bridge.state = .format ∨ s.bridge.state = .contain → exec c s = .next (s.reply .badState [])) ∧
      (s.bridge.state ≠ .format → s.bridge.state ≠ .contain →
        (s.mgmt.diag.isSome = true → exec c s = .next (s.reply .busy [])) ∧
        (s.mgmt.diag = none →
          (s.P * 64 ≤ p → exec c s = .next (s.reply .range [])) ∧
          (p < s.P * 64 → inCopy → exec c s = .next (s.reply .badState []))))) ∧
    (allowed → free → exec (.diagFetch line) s = .next (accepted .fetch .mrd)) ∧
    (∀ mode, mode ≠ 0x00 → mode ≠ 0x01 → exec (.diagStore line mode) s = .next (s.reply .badParam [])) ∧
    (∀ mode, mode = 0x00 ∨ mode = 0x01 → allowed →
      (s.mgmt.view.valid = false ∨ ((s.bridge.state = .online ∨ s.bridge.state = .degraded) ∧ ¬ idleSpare) →
        exec (.diagStore line mode) s = .next (s.reply .badState [])) ∧
      (s.mgmt.view.valid = true → s.bridge.state = .standby ∨ idleSpare → free →
        exec (.diagStore line mode) s = .next
          (if mode = 0x00 then accepted .storeCode (.mwr (encode s.mgmt.view.symbols.data))
           else accepted .storePoison (.mwr (poisonMark s.mgmt.view.symbols.data)))))

/-- DIAG_FETCH and DIAG_STORE end (R182 to R184): a fetch's answer fills FILL with the symbols exactly as read and their outcome,
its timeout with zero symbols and TIMEOUT; a store's acknowledgement or timeout writes no buffer; busy clears and the hold is
released. So it is in service, in CONTAIN, and in FORMAT, where the empty hold table starts the format (R75). At entry into CONTAIN
a waiting hold is withdrawn and FILL stands; a deferred request ends as TIMEOUT (R170). That the format's first write after a
timeout meets the quarantine without the timed-out tag is the model's reading of R167 (notes/assumptions/38.md, DEDUCED). -/
def Obligations.DiagnosticsEnd : Prop :=
  ∀ (s : State) (d : DiagOp) (g t : Fin 64) (line : Nat), s.mgmt.diag = some d →
    let ended (u : State) (fill : Buffer) : State :=
      { u with mgmt := { s.mgmt with fill := fill, diag := none }, order := s.order.without .diag }
    let read (w : Codeword) : Buffer :=
      ⟨w, d.line,
        (match classify w with
          | .clean _ => .clean
          | .corrected _ _ => .corrected
          | .poison => .poison
          | .uncorrectable => .uncorrectable), true⟩
    let lost : Buffer :=
      if d.kind = .fetch then ⟨⟨Vector.replicate 64 0, Vector.replicate 8 0⟩, d.line, .timeout, true⟩ else s.mgmt.fill
    (s.bridge.state ≠ .format → s.NoneWaits ∨ s.bridge.state = .contain →
      (∀ w, d.kind = .fetch → s.Awaits g .diag .mrd line →
        exec (.readData s.mem.generation g w) s = .next (ended (s.answered g) (read w))) ∧
      (∀ v, d.kind ≠ .fetch → s.Awaits g .diag (.mwr v) line →
        exec (.writeAck s.mem.generation g) s = .next (ended (s.answered g) s.mgmt.fill)) ∧
      (∀ kind, s.Awaits g .diag kind line →
        exec (.memoryTimeout g) s = .next ((ended s lost).timedOut g kind line .diag))) ∧
    (s.bridge.state = .format → s.NoneWaits →
      (∀ w, d.kind = .fetch → s.Awaits g .diag .mrd line → (s.answered g).mem.NextTag t →
        exec (.readData s.mem.generation g w) s = .next ((ended (s.answered g) (read w)).drained t)) ∧
      (∀ v, d.kind ≠ .fetch → s.Awaits g .diag (.mwr v) line → (s.answered g).mem.NextTag t →
        exec (.writeAck s.mem.generation g) s = .next ((ended (s.answered g) s.mgmt.fill).drained t)) ∧
      (∀ kind, s.Awaits g .diag kind line → s.mem.NextTag t →
        exec (.memoryTimeout g) s = .next (((ended s lost).drained t).timedOut g kind line .diag))) ∧
    (s.resetLow = false → s.bridge.state = .format ∨ s.bridge.state = .online ∨ s.bridge.state = .degraded →
      ((∃ e ∈ s.order.entries, e.owner = .diag ∧ e.active = false) → (∀ r ∈ s.mem.deferred, r.owner ≠ .diag) →
        ∃ u, exec .forceContain s = .next u ∧ u.mgmt = { s.mgmt with diag := none, reply := ⟨.done, []⟩ }) ∧
      ((∀ e ∈ s.order.entries, e.owner = .diag → e.active = true) → (∃ r ∈ s.mem.deferred, r.owner = .diag) →
        ∃ u, exec .forceContain s = .next u ∧
          u.mgmt = { s.mgmt with fill := lost, diag := none, reply := ⟨.done, []⟩ } ∧
          ∀ e ∈ u.order.entries, e.owner ≠ .diag))

/-! ### The laws together -/

/-- Parameters in range, the format cursor in FORMAT alone and within the array, the history of at most four states, the patrol's
position a host line with checked and skipped lines adding up to it (R114, R124, R131, R133, R140, R177): every command
keeps them. -/
def Obligations.ControlLawKept : Prop :=
  ∀ (c : Instr) (s t : State), ControlLaw s → exec c s = .next t → ControlLaw t

/-- The laws of the Repair Map, the Spare Pool, the Retirement Queue and the current job (R16 to R18, R33, R38, R42, R55), with
what STANDBY leaves empty: every command keeps them, from every state that has them. -/
def Obligations.RepairLawKept : Prop :=
  ∀ (c : Instr) (s t : State), ControlLaw s → RepairLaw s → exec c s = .next t → RepairLaw t

/-- The state after hard reset has every law. -/
def Obligations.LawsHoldAtReset : Prop :=
  ControlLaw State.reset ∧ State.reset.ev.law ∧ AlertLaw State.reset ∧ HoldLaw State.reset ∧ TagLaw State.reset ∧
    SuspectLaw State.reset ∧ RepairLaw State.reset ∧ RequestedLaw State.reset ∧ ResponseLaw State.reset ∧
    CodewordLaw State.reset
end

