-- ==== Sys2Proof/Laws/State.lean ====
section
/-! SUPPORT. One lemma per field per update of `State`: an update sets its own field and leaves every other field as it was. -/

namespace Sys2Proof.Machine

@[simp] theorem State.setPending_pending (s : State) (x : List Instr) : (s.setPending x).pending = x := rfl
@[simp] theorem State.setPending_bridge (s : State) (x : List Instr) : (s.setPending x).bridge = s.bridge := rfl
@[simp] theorem State.setPending_map (s : State) (x : List Instr) : (s.setPending x).map = s.map := rfl
@[simp] theorem State.setPending_spares (s : State) (x : List Instr) : (s.setPending x).spares = s.spares := rfl
@[simp] theorem State.setPending_queue (s : State) (x : List Instr) : (s.setPending x).queue = s.queue := rfl
@[simp] theorem State.setPending_engine (s : State) (x : List Instr) : (s.setPending x).engine = s.engine := rfl
@[simp] theorem State.setPending_lastTest (s : State) (x : List Instr) : (s.setPending x).lastTest = s.lastTest := rfl
@[simp] theorem State.setPending_order (s : State) (x : List Instr) : (s.setPending x).order = s.order := rfl
@[simp] theorem State.setPending_ops (s : State) (x : List Instr) : (s.setPending x).ops = s.ops := rfl
@[simp] theorem State.setPending_suspects (s : State) (x : List Instr) : (s.setPending x).suspects = s.suspects := rfl
@[simp] theorem State.setPending_inbox (s : State) (x : List Instr) : (s.setPending x).inbox = s.inbox := rfl
@[simp] theorem State.setPending_patrol (s : State) (x : List Instr) : (s.setPending x).patrol = s.patrol := rfl
@[simp] theorem State.setPending_ev (s : State) (x : List Instr) : (s.setPending x).ev = s.ev := rfl
@[simp] theorem State.setPending_link (s : State) (x : List Instr) : (s.setPending x).link = s.link := rfl
@[simp] theorem State.setPending_mem (s : State) (x : List Instr) : (s.setPending x).mem = s.mem := rfl
@[simp] theorem State.setPending_mgmt (s : State) (x : List Instr) : (s.setPending x).mgmt = s.mgmt := rfl
@[simp] theorem State.setPending_resetLow (s : State) (x : List Instr) : (s.setPending x).resetLow = s.resetLow := rfl
@[simp] theorem State.setPending_hostOut (s : State) (x : List Instr) : (s.setPending x).hostOut = s.hostOut := rfl
@[simp] theorem State.setPending_memOut (s : State) (x : List Instr) : (s.setPending x).memOut = s.memOut := rfl
@[simp] theorem State.setPending_free (s : State) (x : List Instr) : (s.setPending x).free = s.free := rfl

@[simp] theorem State.setBridge_pending (s : State) (x : Bridge) : (s.setBridge x).pending = s.pending := rfl
@[simp] theorem State.setBridge_bridge (s : State) (x : Bridge) : (s.setBridge x).bridge = x := rfl
@[simp] theorem State.setBridge_map (s : State) (x : Bridge) : (s.setBridge x).map = s.map := rfl
@[simp] theorem State.setBridge_spares (s : State) (x : Bridge) : (s.setBridge x).spares = s.spares := rfl
@[simp] theorem State.setBridge_queue (s : State) (x : Bridge) : (s.setBridge x).queue = s.queue := rfl
@[simp] theorem State.setBridge_engine (s : State) (x : Bridge) : (s.setBridge x).engine = s.engine := rfl
@[simp] theorem State.setBridge_lastTest (s : State) (x : Bridge) : (s.setBridge x).lastTest = s.lastTest := rfl
@[simp] theorem State.setBridge_order (s : State) (x : Bridge) : (s.setBridge x).order = s.order := rfl
@[simp] theorem State.setBridge_ops (s : State) (x : Bridge) : (s.setBridge x).ops = s.ops := rfl
@[simp] theorem State.setBridge_suspects (s : State) (x : Bridge) : (s.setBridge x).suspects = s.suspects := rfl
@[simp] theorem State.setBridge_inbox (s : State) (x : Bridge) : (s.setBridge x).inbox = s.inbox := rfl
@[simp] theorem State.setBridge_patrol (s : State) (x : Bridge) : (s.setBridge x).patrol = s.patrol := rfl
@[simp] theorem State.setBridge_ev (s : State) (x : Bridge) : (s.setBridge x).ev = s.ev := rfl
@[simp] theorem State.setBridge_link (s : State) (x : Bridge) : (s.setBridge x).link = s.link := rfl
@[simp] theorem State.setBridge_mem (s : State) (x : Bridge) : (s.setBridge x).mem = s.mem := rfl
@[simp] theorem State.setBridge_mgmt (s : State) (x : Bridge) : (s.setBridge x).mgmt = s.mgmt := rfl
@[simp] theorem State.setBridge_resetLow (s : State) (x : Bridge) : (s.setBridge x).resetLow = s.resetLow := rfl
@[simp] theorem State.setBridge_hostOut (s : State) (x : Bridge) : (s.setBridge x).hostOut = s.hostOut := rfl
@[simp] theorem State.setBridge_memOut (s : State) (x : Bridge) : (s.setBridge x).memOut = s.memOut := rfl
@[simp] theorem State.setBridge_free (s : State) (x : Bridge) : (s.setBridge x).free = s.free := rfl

@[simp] theorem State.setMap_pending (s : State) (x : List MapEntry) : (s.setMap x).pending = s.pending := rfl
@[simp] theorem State.setMap_bridge (s : State) (x : List MapEntry) : (s.setMap x).bridge = s.bridge := rfl
@[simp] theorem State.setMap_map (s : State) (x : List MapEntry) : (s.setMap x).map = x := rfl
@[simp] theorem State.setMap_spares (s : State) (x : List MapEntry) : (s.setMap x).spares = s.spares := rfl
@[simp] theorem State.setMap_queue (s : State) (x : List MapEntry) : (s.setMap x).queue = s.queue := rfl
@[simp] theorem State.setMap_engine (s : State) (x : List MapEntry) : (s.setMap x).engine = s.engine := rfl
@[simp] theorem State.setMap_lastTest (s : State) (x : List MapEntry) : (s.setMap x).lastTest = s.lastTest := rfl
@[simp] theorem State.setMap_order (s : State) (x : List MapEntry) : (s.setMap x).order = s.order := rfl
@[simp] theorem State.setMap_ops (s : State) (x : List MapEntry) : (s.setMap x).ops = s.ops := rfl
@[simp] theorem State.setMap_suspects (s : State) (x : List MapEntry) : (s.setMap x).suspects = s.suspects := rfl
@[simp] theorem State.setMap_inbox (s : State) (x : List MapEntry) : (s.setMap x).inbox = s.inbox := rfl
@[simp] theorem State.setMap_patrol (s : State) (x : List MapEntry) : (s.setMap x).patrol = s.patrol := rfl
@[simp] theorem State.setMap_ev (s : State) (x : List MapEntry) : (s.setMap x).ev = s.ev := rfl
@[simp] theorem State.setMap_link (s : State) (x : List MapEntry) : (s.setMap x).link = s.link := rfl
@[simp] theorem State.setMap_mem (s : State) (x : List MapEntry) : (s.setMap x).mem = s.mem := rfl
@[simp] theorem State.setMap_mgmt (s : State) (x : List MapEntry) : (s.setMap x).mgmt = s.mgmt := rfl
@[simp] theorem State.setMap_resetLow (s : State) (x : List MapEntry) : (s.setMap x).resetLow = s.resetLow := rfl
@[simp] theorem State.setMap_hostOut (s : State) (x : List MapEntry) : (s.setMap x).hostOut = s.hostOut := rfl
@[simp] theorem State.setMap_memOut (s : State) (x : List MapEntry) : (s.setMap x).memOut = s.memOut := rfl
@[simp] theorem State.setMap_free (s : State) (x : List MapEntry) : (s.setMap x).free = s.free := rfl

@[simp] theorem State.setSpares_pending (s : State) (x : List SpareState) : (s.setSpares x).pending = s.pending := rfl
@[simp] theorem State.setSpares_bridge (s : State) (x : List SpareState) : (s.setSpares x).bridge = s.bridge := rfl
@[simp] theorem State.setSpares_map (s : State) (x : List SpareState) : (s.setSpares x).map = s.map := rfl
@[simp] theorem State.setSpares_spares (s : State) (x : List SpareState) : (s.setSpares x).spares = x := rfl
@[simp] theorem State.setSpares_queue (s : State) (x : List SpareState) : (s.setSpares x).queue = s.queue := rfl
@[simp] theorem State.setSpares_engine (s : State) (x : List SpareState) : (s.setSpares x).engine = s.engine := rfl
@[simp] theorem State.setSpares_lastTest (s : State) (x : List SpareState) : (s.setSpares x).lastTest = s.lastTest := rfl
@[simp] theorem State.setSpares_order (s : State) (x : List SpareState) : (s.setSpares x).order = s.order := rfl
@[simp] theorem State.setSpares_ops (s : State) (x : List SpareState) : (s.setSpares x).ops = s.ops := rfl
@[simp] theorem State.setSpares_suspects (s : State) (x : List SpareState) : (s.setSpares x).suspects = s.suspects := rfl
@[simp] theorem State.setSpares_inbox (s : State) (x : List SpareState) : (s.setSpares x).inbox = s.inbox := rfl
@[simp] theorem State.setSpares_patrol (s : State) (x : List SpareState) : (s.setSpares x).patrol = s.patrol := rfl
@[simp] theorem State.setSpares_ev (s : State) (x : List SpareState) : (s.setSpares x).ev = s.ev := rfl
@[simp] theorem State.setSpares_link (s : State) (x : List SpareState) : (s.setSpares x).link = s.link := rfl
@[simp] theorem State.setSpares_mem (s : State) (x : List SpareState) : (s.setSpares x).mem = s.mem := rfl
@[simp] theorem State.setSpares_mgmt (s : State) (x : List SpareState) : (s.setSpares x).mgmt = s.mgmt := rfl
@[simp] theorem State.setSpares_resetLow (s : State) (x : List SpareState) : (s.setSpares x).resetLow = s.resetLow := rfl
@[simp] theorem State.setSpares_hostOut (s : State) (x : List SpareState) : (s.setSpares x).hostOut = s.hostOut := rfl
@[simp] theorem State.setSpares_memOut (s : State) (x : List SpareState) : (s.setSpares x).memOut = s.memOut := rfl
@[simp] theorem State.setSpares_free (s : State) (x : List SpareState) : (s.setSpares x).free = s.free := rfl

@[simp] theorem State.setQueue_pending (s : State) (x : List Request) : (s.setQueue x).pending = s.pending := rfl
@[simp] theorem State.setQueue_bridge (s : State) (x : List Request) : (s.setQueue x).bridge = s.bridge := rfl
@[simp] theorem State.setQueue_map (s : State) (x : List Request) : (s.setQueue x).map = s.map := rfl
@[simp] theorem State.setQueue_spares (s : State) (x : List Request) : (s.setQueue x).spares = s.spares := rfl
@[simp] theorem State.setQueue_queue (s : State) (x : List Request) : (s.setQueue x).queue = x := rfl
@[simp] theorem State.setQueue_engine (s : State) (x : List Request) : (s.setQueue x).engine = s.engine := rfl
@[simp] theorem State.setQueue_lastTest (s : State) (x : List Request) : (s.setQueue x).lastTest = s.lastTest := rfl
@[simp] theorem State.setQueue_order (s : State) (x : List Request) : (s.setQueue x).order = s.order := rfl
@[simp] theorem State.setQueue_ops (s : State) (x : List Request) : (s.setQueue x).ops = s.ops := rfl
@[simp] theorem State.setQueue_suspects (s : State) (x : List Request) : (s.setQueue x).suspects = s.suspects := rfl
@[simp] theorem State.setQueue_inbox (s : State) (x : List Request) : (s.setQueue x).inbox = s.inbox := rfl
@[simp] theorem State.setQueue_patrol (s : State) (x : List Request) : (s.setQueue x).patrol = s.patrol := rfl
@[simp] theorem State.setQueue_ev (s : State) (x : List Request) : (s.setQueue x).ev = s.ev := rfl
@[simp] theorem State.setQueue_link (s : State) (x : List Request) : (s.setQueue x).link = s.link := rfl
@[simp] theorem State.setQueue_mem (s : State) (x : List Request) : (s.setQueue x).mem = s.mem := rfl
@[simp] theorem State.setQueue_mgmt (s : State) (x : List Request) : (s.setQueue x).mgmt = s.mgmt := rfl
@[simp] theorem State.setQueue_resetLow (s : State) (x : List Request) : (s.setQueue x).resetLow = s.resetLow := rfl
@[simp] theorem State.setQueue_hostOut (s : State) (x : List Request) : (s.setQueue x).hostOut = s.hostOut := rfl
@[simp] theorem State.setQueue_memOut (s : State) (x : List Request) : (s.setQueue x).memOut = s.memOut := rfl
@[simp] theorem State.setQueue_free (s : State) (x : List Request) : (s.setQueue x).free = s.free := rfl

@[simp] theorem State.setEngine_pending (s : State) (x : EngineState) : (s.setEngine x).pending = s.pending := rfl
@[simp] theorem State.setEngine_bridge (s : State) (x : EngineState) : (s.setEngine x).bridge = s.bridge := rfl
@[simp] theorem State.setEngine_map (s : State) (x : EngineState) : (s.setEngine x).map = s.map := rfl
@[simp] theorem State.setEngine_spares (s : State) (x : EngineState) : (s.setEngine x).spares = s.spares := rfl
@[simp] theorem State.setEngine_queue (s : State) (x : EngineState) : (s.setEngine x).queue = s.queue := rfl
@[simp] theorem State.setEngine_engine (s : State) (x : EngineState) : (s.setEngine x).engine = x := rfl
@[simp] theorem State.setEngine_lastTest (s : State) (x : EngineState) : (s.setEngine x).lastTest = s.lastTest := rfl
@[simp] theorem State.setEngine_order (s : State) (x : EngineState) : (s.setEngine x).order = s.order := rfl
@[simp] theorem State.setEngine_ops (s : State) (x : EngineState) : (s.setEngine x).ops = s.ops := rfl
@[simp] theorem State.setEngine_suspects (s : State) (x : EngineState) : (s.setEngine x).suspects = s.suspects := rfl
@[simp] theorem State.setEngine_inbox (s : State) (x : EngineState) : (s.setEngine x).inbox = s.inbox := rfl
@[simp] theorem State.setEngine_patrol (s : State) (x : EngineState) : (s.setEngine x).patrol = s.patrol := rfl
@[simp] theorem State.setEngine_ev (s : State) (x : EngineState) : (s.setEngine x).ev = s.ev := rfl
@[simp] theorem State.setEngine_link (s : State) (x : EngineState) : (s.setEngine x).link = s.link := rfl
@[simp] theorem State.setEngine_mem (s : State) (x : EngineState) : (s.setEngine x).mem = s.mem := rfl
@[simp] theorem State.setEngine_mgmt (s : State) (x : EngineState) : (s.setEngine x).mgmt = s.mgmt := rfl
@[simp] theorem State.setEngine_resetLow (s : State) (x : EngineState) : (s.setEngine x).resetLow = s.resetLow := rfl
@[simp] theorem State.setEngine_hostOut (s : State) (x : EngineState) : (s.setEngine x).hostOut = s.hostOut := rfl
@[simp] theorem State.setEngine_memOut (s : State) (x : EngineState) : (s.setEngine x).memOut = s.memOut := rfl
@[simp] theorem State.setEngine_free (s : State) (x : EngineState) : (s.setEngine x).free = s.free := rfl

@[simp] theorem State.setLastTest_pending (s : State) (x : Option (Nat × TestResult)) : (s.setLastTest x).pending = s.pending := rfl
@[simp] theorem State.setLastTest_bridge (s : State) (x : Option (Nat × TestResult)) : (s.setLastTest x).bridge = s.bridge := rfl
@[simp] theorem State.setLastTest_map (s : State) (x : Option (Nat × TestResult)) : (s.setLastTest x).map = s.map := rfl
@[simp] theorem State.setLastTest_spares (s : State) (x : Option (Nat × TestResult)) : (s.setLastTest x).spares = s.spares := rfl
@[simp] theorem State.setLastTest_queue (s : State) (x : Option (Nat × TestResult)) : (s.setLastTest x).queue = s.queue := rfl
@[simp] theorem State.setLastTest_engine (s : State) (x : Option (Nat × TestResult)) : (s.setLastTest x).engine = s.engine := rfl
@[simp] theorem State.setLastTest_lastTest (s : State) (x : Option (Nat × TestResult)) : (s.setLastTest x).lastTest = x := rfl
@[simp] theorem State.setLastTest_order (s : State) (x : Option (Nat × TestResult)) : (s.setLastTest x).order = s.order := rfl
@[simp] theorem State.setLastTest_ops (s : State) (x : Option (Nat × TestResult)) : (s.setLastTest x).ops = s.ops := rfl
@[simp] theorem State.setLastTest_suspects (s : State) (x : Option (Nat × TestResult)) : (s.setLastTest x).suspects = s.suspects := rfl
@[simp] theorem State.setLastTest_inbox (s : State) (x : Option (Nat × TestResult)) : (s.setLastTest x).inbox = s.inbox := rfl
@[simp] theorem State.setLastTest_patrol (s : State) (x : Option (Nat × TestResult)) : (s.setLastTest x).patrol = s.patrol := rfl
@[simp] theorem State.setLastTest_ev (s : State) (x : Option (Nat × TestResult)) : (s.setLastTest x).ev = s.ev := rfl
@[simp] theorem State.setLastTest_link (s : State) (x : Option (Nat × TestResult)) : (s.setLastTest x).link = s.link := rfl
@[simp] theorem State.setLastTest_mem (s : State) (x : Option (Nat × TestResult)) : (s.setLastTest x).mem = s.mem := rfl
@[simp] theorem State.setLastTest_mgmt (s : State) (x : Option (Nat × TestResult)) : (s.setLastTest x).mgmt = s.mgmt := rfl
@[simp] theorem State.setLastTest_resetLow (s : State) (x : Option (Nat × TestResult)) : (s.setLastTest x).resetLow = s.resetLow := rfl
@[simp] theorem State.setLastTest_hostOut (s : State) (x : Option (Nat × TestResult)) : (s.setLastTest x).hostOut = s.hostOut := rfl
@[simp] theorem State.setLastTest_memOut (s : State) (x : Option (Nat × TestResult)) : (s.setLastTest x).memOut = s.memOut := rfl
@[simp] theorem State.setLastTest_free (s : State) (x : Option (Nat × TestResult)) : (s.setLastTest x).free = s.free := rfl

@[simp] theorem State.setOrder_pending (s : State) (x : LineOrder) : (s.setOrder x).pending = s.pending := rfl
@[simp] theorem State.setOrder_bridge (s : State) (x : LineOrder) : (s.setOrder x).bridge = s.bridge := rfl
@[simp] theorem State.setOrder_map (s : State) (x : LineOrder) : (s.setOrder x).map = s.map := rfl
@[simp] theorem State.setOrder_spares (s : State) (x : LineOrder) : (s.setOrder x).spares = s.spares := rfl
@[simp] theorem State.setOrder_queue (s : State) (x : LineOrder) : (s.setOrder x).queue = s.queue := rfl
@[simp] theorem State.setOrder_engine (s : State) (x : LineOrder) : (s.setOrder x).engine = s.engine := rfl
@[simp] theorem State.setOrder_lastTest (s : State) (x : LineOrder) : (s.setOrder x).lastTest = s.lastTest := rfl
@[simp] theorem State.setOrder_order (s : State) (x : LineOrder) : (s.setOrder x).order = x := rfl
@[simp] theorem State.setOrder_ops (s : State) (x : LineOrder) : (s.setOrder x).ops = s.ops := rfl
@[simp] theorem State.setOrder_suspects (s : State) (x : LineOrder) : (s.setOrder x).suspects = s.suspects := rfl
@[simp] theorem State.setOrder_inbox (s : State) (x : LineOrder) : (s.setOrder x).inbox = s.inbox := rfl
@[simp] theorem State.setOrder_patrol (s : State) (x : LineOrder) : (s.setOrder x).patrol = s.patrol := rfl
@[simp] theorem State.setOrder_ev (s : State) (x : LineOrder) : (s.setOrder x).ev = s.ev := rfl
@[simp] theorem State.setOrder_link (s : State) (x : LineOrder) : (s.setOrder x).link = s.link := rfl
@[simp] theorem State.setOrder_mem (s : State) (x : LineOrder) : (s.setOrder x).mem = s.mem := rfl
@[simp] theorem State.setOrder_mgmt (s : State) (x : LineOrder) : (s.setOrder x).mgmt = s.mgmt := rfl
@[simp] theorem State.setOrder_resetLow (s : State) (x : LineOrder) : (s.setOrder x).resetLow = s.resetLow := rfl
@[simp] theorem State.setOrder_hostOut (s : State) (x : LineOrder) : (s.setOrder x).hostOut = s.hostOut := rfl
@[simp] theorem State.setOrder_memOut (s : State) (x : LineOrder) : (s.setOrder x).memOut = s.memOut := rfl
@[simp] theorem State.setOrder_free (s : State) (x : LineOrder) : (s.setOrder x).free = s.free := rfl

@[simp] theorem State.setOps_pending (s : State) (x : List HostOp) : (s.setOps x).pending = s.pending := rfl
@[simp] theorem State.setOps_bridge (s : State) (x : List HostOp) : (s.setOps x).bridge = s.bridge := rfl
@[simp] theorem State.setOps_map (s : State) (x : List HostOp) : (s.setOps x).map = s.map := rfl
@[simp] theorem State.setOps_spares (s : State) (x : List HostOp) : (s.setOps x).spares = s.spares := rfl
@[simp] theorem State.setOps_queue (s : State) (x : List HostOp) : (s.setOps x).queue = s.queue := rfl
@[simp] theorem State.setOps_engine (s : State) (x : List HostOp) : (s.setOps x).engine = s.engine := rfl
@[simp] theorem State.setOps_lastTest (s : State) (x : List HostOp) : (s.setOps x).lastTest = s.lastTest := rfl
@[simp] theorem State.setOps_order (s : State) (x : List HostOp) : (s.setOps x).order = s.order := rfl
@[simp] theorem State.setOps_ops (s : State) (x : List HostOp) : (s.setOps x).ops = x := rfl
@[simp] theorem State.setOps_suspects (s : State) (x : List HostOp) : (s.setOps x).suspects = s.suspects := rfl
@[simp] theorem State.setOps_inbox (s : State) (x : List HostOp) : (s.setOps x).inbox = s.inbox := rfl
@[simp] theorem State.setOps_patrol (s : State) (x : List HostOp) : (s.setOps x).patrol = s.patrol := rfl
@[simp] theorem State.setOps_ev (s : State) (x : List HostOp) : (s.setOps x).ev = s.ev := rfl
@[simp] theorem State.setOps_link (s : State) (x : List HostOp) : (s.setOps x).link = s.link := rfl
@[simp] theorem State.setOps_mem (s : State) (x : List HostOp) : (s.setOps x).mem = s.mem := rfl
@[simp] theorem State.setOps_mgmt (s : State) (x : List HostOp) : (s.setOps x).mgmt = s.mgmt := rfl
@[simp] theorem State.setOps_resetLow (s : State) (x : List HostOp) : (s.setOps x).resetLow = s.resetLow := rfl
@[simp] theorem State.setOps_hostOut (s : State) (x : List HostOp) : (s.setOps x).hostOut = s.hostOut := rfl
@[simp] theorem State.setOps_memOut (s : State) (x : List HostOp) : (s.setOps x).memOut = s.memOut := rfl
@[simp] theorem State.setOps_free (s : State) (x : List HostOp) : (s.setOps x).free = s.free := rfl

@[simp] theorem State.setSuspects_pending (s : State) (x : List Suspect) : (s.setSuspects x).pending = s.pending := rfl
@[simp] theorem State.setSuspects_bridge (s : State) (x : List Suspect) : (s.setSuspects x).bridge = s.bridge := rfl
@[simp] theorem State.setSuspects_map (s : State) (x : List Suspect) : (s.setSuspects x).map = s.map := rfl
@[simp] theorem State.setSuspects_spares (s : State) (x : List Suspect) : (s.setSuspects x).spares = s.spares := rfl
@[simp] theorem State.setSuspects_queue (s : State) (x : List Suspect) : (s.setSuspects x).queue = s.queue := rfl
@[simp] theorem State.setSuspects_engine (s : State) (x : List Suspect) : (s.setSuspects x).engine = s.engine := rfl
@[simp] theorem State.setSuspects_lastTest (s : State) (x : List Suspect) : (s.setSuspects x).lastTest = s.lastTest := rfl
@[simp] theorem State.setSuspects_order (s : State) (x : List Suspect) : (s.setSuspects x).order = s.order := rfl
@[simp] theorem State.setSuspects_ops (s : State) (x : List Suspect) : (s.setSuspects x).ops = s.ops := rfl
@[simp] theorem State.setSuspects_suspects (s : State) (x : List Suspect) : (s.setSuspects x).suspects = x := rfl
@[simp] theorem State.setSuspects_inbox (s : State) (x : List Suspect) : (s.setSuspects x).inbox = s.inbox := rfl
@[simp] theorem State.setSuspects_patrol (s : State) (x : List Suspect) : (s.setSuspects x).patrol = s.patrol := rfl
@[simp] theorem State.setSuspects_ev (s : State) (x : List Suspect) : (s.setSuspects x).ev = s.ev := rfl
@[simp] theorem State.setSuspects_link (s : State) (x : List Suspect) : (s.setSuspects x).link = s.link := rfl
@[simp] theorem State.setSuspects_mem (s : State) (x : List Suspect) : (s.setSuspects x).mem = s.mem := rfl
@[simp] theorem State.setSuspects_mgmt (s : State) (x : List Suspect) : (s.setSuspects x).mgmt = s.mgmt := rfl
@[simp] theorem State.setSuspects_resetLow (s : State) (x : List Suspect) : (s.setSuspects x).resetLow = s.resetLow := rfl
@[simp] theorem State.setSuspects_hostOut (s : State) (x : List Suspect) : (s.setSuspects x).hostOut = s.hostOut := rfl
@[simp] theorem State.setSuspects_memOut (s : State) (x : List Suspect) : (s.setSuspects x).memOut = s.memOut := rfl
@[simp] theorem State.setSuspects_free (s : State) (x : List Suspect) : (s.setSuspects x).free = s.free := rfl

@[simp] theorem State.setInbox_pending (s : State) (x : List Handed) : (s.setInbox x).pending = s.pending := rfl
@[simp] theorem State.setInbox_bridge (s : State) (x : List Handed) : (s.setInbox x).bridge = s.bridge := rfl
@[simp] theorem State.setInbox_map (s : State) (x : List Handed) : (s.setInbox x).map = s.map := rfl
@[simp] theorem State.setInbox_spares (s : State) (x : List Handed) : (s.setInbox x).spares = s.spares := rfl
@[simp] theorem State.setInbox_queue (s : State) (x : List Handed) : (s.setInbox x).queue = s.queue := rfl
@[simp] theorem State.setInbox_engine (s : State) (x : List Handed) : (s.setInbox x).engine = s.engine := rfl
@[simp] theorem State.setInbox_lastTest (s : State) (x : List Handed) : (s.setInbox x).lastTest = s.lastTest := rfl
@[simp] theorem State.setInbox_order (s : State) (x : List Handed) : (s.setInbox x).order = s.order := rfl
@[simp] theorem State.setInbox_ops (s : State) (x : List Handed) : (s.setInbox x).ops = s.ops := rfl
@[simp] theorem State.setInbox_suspects (s : State) (x : List Handed) : (s.setInbox x).suspects = s.suspects := rfl
@[simp] theorem State.setInbox_inbox (s : State) (x : List Handed) : (s.setInbox x).inbox = x := rfl
@[simp] theorem State.setInbox_patrol (s : State) (x : List Handed) : (s.setInbox x).patrol = s.patrol := rfl
@[simp] theorem State.setInbox_ev (s : State) (x : List Handed) : (s.setInbox x).ev = s.ev := rfl
@[simp] theorem State.setInbox_link (s : State) (x : List Handed) : (s.setInbox x).link = s.link := rfl
@[simp] theorem State.setInbox_mem (s : State) (x : List Handed) : (s.setInbox x).mem = s.mem := rfl
@[simp] theorem State.setInbox_mgmt (s : State) (x : List Handed) : (s.setInbox x).mgmt = s.mgmt := rfl
@[simp] theorem State.setInbox_resetLow (s : State) (x : List Handed) : (s.setInbox x).resetLow = s.resetLow := rfl
@[simp] theorem State.setInbox_hostOut (s : State) (x : List Handed) : (s.setInbox x).hostOut = s.hostOut := rfl
@[simp] theorem State.setInbox_memOut (s : State) (x : List Handed) : (s.setInbox x).memOut = s.memOut := rfl
@[simp] theorem State.setInbox_free (s : State) (x : List Handed) : (s.setInbox x).free = s.free := rfl

@[simp] theorem State.setPatrol_pending (s : State) (x : Patrol) : (s.setPatrol x).pending = s.pending := rfl
@[simp] theorem State.setPatrol_bridge (s : State) (x : Patrol) : (s.setPatrol x).bridge = s.bridge := rfl
@[simp] theorem State.setPatrol_map (s : State) (x : Patrol) : (s.setPatrol x).map = s.map := rfl
@[simp] theorem State.setPatrol_spares (s : State) (x : Patrol) : (s.setPatrol x).spares = s.spares := rfl
@[simp] theorem State.setPatrol_queue (s : State) (x : Patrol) : (s.setPatrol x).queue = s.queue := rfl
@[simp] theorem State.setPatrol_engine (s : State) (x : Patrol) : (s.setPatrol x).engine = s.engine := rfl
@[simp] theorem State.setPatrol_lastTest (s : State) (x : Patrol) : (s.setPatrol x).lastTest = s.lastTest := rfl
@[simp] theorem State.setPatrol_order (s : State) (x : Patrol) : (s.setPatrol x).order = s.order := rfl
@[simp] theorem State.setPatrol_ops (s : State) (x : Patrol) : (s.setPatrol x).ops = s.ops := rfl
@[simp] theorem State.setPatrol_suspects (s : State) (x : Patrol) : (s.setPatrol x).suspects = s.suspects := rfl
@[simp] theorem State.setPatrol_inbox (s : State) (x : Patrol) : (s.setPatrol x).inbox = s.inbox := rfl
@[simp] theorem State.setPatrol_patrol (s : State) (x : Patrol) : (s.setPatrol x).patrol = x := rfl
@[simp] theorem State.setPatrol_ev (s : State) (x : Patrol) : (s.setPatrol x).ev = s.ev := rfl
@[simp] theorem State.setPatrol_link (s : State) (x : Patrol) : (s.setPatrol x).link = s.link := rfl
@[simp] theorem State.setPatrol_mem (s : State) (x : Patrol) : (s.setPatrol x).mem = s.mem := rfl
@[simp] theorem State.setPatrol_mgmt (s : State) (x : Patrol) : (s.setPatrol x).mgmt = s.mgmt := rfl
@[simp] theorem State.setPatrol_resetLow (s : State) (x : Patrol) : (s.setPatrol x).resetLow = s.resetLow := rfl
@[simp] theorem State.setPatrol_hostOut (s : State) (x : Patrol) : (s.setPatrol x).hostOut = s.hostOut := rfl
@[simp] theorem State.setPatrol_memOut (s : State) (x : Patrol) : (s.setPatrol x).memOut = s.memOut := rfl
@[simp] theorem State.setPatrol_free (s : State) (x : Patrol) : (s.setPatrol x).free = s.free := rfl

@[simp] theorem State.setEv_pending (s : State) (x : EventUnit) : (s.setEv x).pending = s.pending := rfl
@[simp] theorem State.setEv_bridge (s : State) (x : EventUnit) : (s.setEv x).bridge = s.bridge := rfl
@[simp] theorem State.setEv_map (s : State) (x : EventUnit) : (s.setEv x).map = s.map := rfl
@[simp] theorem State.setEv_spares (s : State) (x : EventUnit) : (s.setEv x).spares = s.spares := rfl
@[simp] theorem State.setEv_queue (s : State) (x : EventUnit) : (s.setEv x).queue = s.queue := rfl
@[simp] theorem State.setEv_engine (s : State) (x : EventUnit) : (s.setEv x).engine = s.engine := rfl
@[simp] theorem State.setEv_lastTest (s : State) (x : EventUnit) : (s.setEv x).lastTest = s.lastTest := rfl
@[simp] theorem State.setEv_order (s : State) (x : EventUnit) : (s.setEv x).order = s.order := rfl
@[simp] theorem State.setEv_ops (s : State) (x : EventUnit) : (s.setEv x).ops = s.ops := rfl
@[simp] theorem State.setEv_suspects (s : State) (x : EventUnit) : (s.setEv x).suspects = s.suspects := rfl
@[simp] theorem State.setEv_inbox (s : State) (x : EventUnit) : (s.setEv x).inbox = s.inbox := rfl
@[simp] theorem State.setEv_patrol (s : State) (x : EventUnit) : (s.setEv x).patrol = s.patrol := rfl
@[simp] theorem State.setEv_ev (s : State) (x : EventUnit) : (s.setEv x).ev = x := rfl
@[simp] theorem State.setEv_link (s : State) (x : EventUnit) : (s.setEv x).link = s.link := rfl
@[simp] theorem State.setEv_mem (s : State) (x : EventUnit) : (s.setEv x).mem = s.mem := rfl
@[simp] theorem State.setEv_mgmt (s : State) (x : EventUnit) : (s.setEv x).mgmt = s.mgmt := rfl
@[simp] theorem State.setEv_resetLow (s : State) (x : EventUnit) : (s.setEv x).resetLow = s.resetLow := rfl
@[simp] theorem State.setEv_hostOut (s : State) (x : EventUnit) : (s.setEv x).hostOut = s.hostOut := rfl
@[simp] theorem State.setEv_memOut (s : State) (x : EventUnit) : (s.setEv x).memOut = s.memOut := rfl
@[simp] theorem State.setEv_free (s : State) (x : EventUnit) : (s.setEv x).free = s.free := rfl

@[simp] theorem State.setLink_pending (s : State) (x : Link) : (s.setLink x).pending = s.pending := rfl
@[simp] theorem State.setLink_bridge (s : State) (x : Link) : (s.setLink x).bridge = s.bridge := rfl
@[simp] theorem State.setLink_map (s : State) (x : Link) : (s.setLink x).map = s.map := rfl
@[simp] theorem State.setLink_spares (s : State) (x : Link) : (s.setLink x).spares = s.spares := rfl
@[simp] theorem State.setLink_queue (s : State) (x : Link) : (s.setLink x).queue = s.queue := rfl
@[simp] theorem State.setLink_engine (s : State) (x : Link) : (s.setLink x).engine = s.engine := rfl
@[simp] theorem State.setLink_lastTest (s : State) (x : Link) : (s.setLink x).lastTest = s.lastTest := rfl
@[simp] theorem State.setLink_order (s : State) (x : Link) : (s.setLink x).order = s.order := rfl
@[simp] theorem State.setLink_ops (s : State) (x : Link) : (s.setLink x).ops = s.ops := rfl
@[simp] theorem State.setLink_suspects (s : State) (x : Link) : (s.setLink x).suspects = s.suspects := rfl
@[simp] theorem State.setLink_inbox (s : State) (x : Link) : (s.setLink x).inbox = s.inbox := rfl
@[simp] theorem State.setLink_patrol (s : State) (x : Link) : (s.setLink x).patrol = s.patrol := rfl
@[simp] theorem State.setLink_ev (s : State) (x : Link) : (s.setLink x).ev = s.ev := rfl
@[simp] theorem State.setLink_link (s : State) (x : Link) : (s.setLink x).link = x := rfl
@[simp] theorem State.setLink_mem (s : State) (x : Link) : (s.setLink x).mem = s.mem := rfl
@[simp] theorem State.setLink_mgmt (s : State) (x : Link) : (s.setLink x).mgmt = s.mgmt := rfl
@[simp] theorem State.setLink_resetLow (s : State) (x : Link) : (s.setLink x).resetLow = s.resetLow := rfl
@[simp] theorem State.setLink_hostOut (s : State) (x : Link) : (s.setLink x).hostOut = s.hostOut := rfl
@[simp] theorem State.setLink_memOut (s : State) (x : Link) : (s.setLink x).memOut = s.memOut := rfl
@[simp] theorem State.setLink_free (s : State) (x : Link) : (s.setLink x).free = s.free := rfl

@[simp] theorem State.setMem_pending (s : State) (x : MemPort) : (s.setMem x).pending = s.pending := rfl
@[simp] theorem State.setMem_bridge (s : State) (x : MemPort) : (s.setMem x).bridge = s.bridge := rfl
@[simp] theorem State.setMem_map (s : State) (x : MemPort) : (s.setMem x).map = s.map := rfl
@[simp] theorem State.setMem_spares (s : State) (x : MemPort) : (s.setMem x).spares = s.spares := rfl
@[simp] theorem State.setMem_queue (s : State) (x : MemPort) : (s.setMem x).queue = s.queue := rfl
@[simp] theorem State.setMem_engine (s : State) (x : MemPort) : (s.setMem x).engine = s.engine := rfl
@[simp] theorem State.setMem_lastTest (s : State) (x : MemPort) : (s.setMem x).lastTest = s.lastTest := rfl
@[simp] theorem State.setMem_order (s : State) (x : MemPort) : (s.setMem x).order = s.order := rfl
@[simp] theorem State.setMem_ops (s : State) (x : MemPort) : (s.setMem x).ops = s.ops := rfl
@[simp] theorem State.setMem_suspects (s : State) (x : MemPort) : (s.setMem x).suspects = s.suspects := rfl
@[simp] theorem State.setMem_inbox (s : State) (x : MemPort) : (s.setMem x).inbox = s.inbox := rfl
@[simp] theorem State.setMem_patrol (s : State) (x : MemPort) : (s.setMem x).patrol = s.patrol := rfl
@[simp] theorem State.setMem_ev (s : State) (x : MemPort) : (s.setMem x).ev = s.ev := rfl
@[simp] theorem State.setMem_link (s : State) (x : MemPort) : (s.setMem x).link = s.link := rfl
@[simp] theorem State.setMem_mem (s : State) (x : MemPort) : (s.setMem x).mem = x := rfl
@[simp] theorem State.setMem_mgmt (s : State) (x : MemPort) : (s.setMem x).mgmt = s.mgmt := rfl
@[simp] theorem State.setMem_resetLow (s : State) (x : MemPort) : (s.setMem x).resetLow = s.resetLow := rfl
@[simp] theorem State.setMem_hostOut (s : State) (x : MemPort) : (s.setMem x).hostOut = s.hostOut := rfl
@[simp] theorem State.setMem_memOut (s : State) (x : MemPort) : (s.setMem x).memOut = s.memOut := rfl
@[simp] theorem State.setMem_free (s : State) (x : MemPort) : (s.setMem x).free = s.free := rfl

@[simp] theorem State.setMgmt_pending (s : State) (x : Mgmt) : (s.setMgmt x).pending = s.pending := rfl
@[simp] theorem State.setMgmt_bridge (s : State) (x : Mgmt) : (s.setMgmt x).bridge = s.bridge := rfl
@[simp] theorem State.setMgmt_map (s : State) (x : Mgmt) : (s.setMgmt x).map = s.map := rfl
@[simp] theorem State.setMgmt_spares (s : State) (x : Mgmt) : (s.setMgmt x).spares = s.spares := rfl
@[simp] theorem State.setMgmt_queue (s : State) (x : Mgmt) : (s.setMgmt x).queue = s.queue := rfl
@[simp] theorem State.setMgmt_engine (s : State) (x : Mgmt) : (s.setMgmt x).engine = s.engine := rfl
@[simp] theorem State.setMgmt_lastTest (s : State) (x : Mgmt) : (s.setMgmt x).lastTest = s.lastTest := rfl
@[simp] theorem State.setMgmt_order (s : State) (x : Mgmt) : (s.setMgmt x).order = s.order := rfl
@[simp] theorem State.setMgmt_ops (s : State) (x : Mgmt) : (s.setMgmt x).ops = s.ops := rfl
@[simp] theorem State.setMgmt_suspects (s : State) (x : Mgmt) : (s.setMgmt x).suspects = s.suspects := rfl
@[simp] theorem State.setMgmt_inbox (s : State) (x : Mgmt) : (s.setMgmt x).inbox = s.inbox := rfl
@[simp] theorem State.setMgmt_patrol (s : State) (x : Mgmt) : (s.setMgmt x).patrol = s.patrol := rfl
@[simp] theorem State.setMgmt_ev (s : State) (x : Mgmt) : (s.setMgmt x).ev = s.ev := rfl
@[simp] theorem State.setMgmt_link (s : State) (x : Mgmt) : (s.setMgmt x).link = s.link := rfl
@[simp] theorem State.setMgmt_mem (s : State) (x : Mgmt) : (s.setMgmt x).mem = s.mem := rfl
@[simp] theorem State.setMgmt_mgmt (s : State) (x : Mgmt) : (s.setMgmt x).mgmt = x := rfl
@[simp] theorem State.setMgmt_resetLow (s : State) (x : Mgmt) : (s.setMgmt x).resetLow = s.resetLow := rfl
@[simp] theorem State.setMgmt_hostOut (s : State) (x : Mgmt) : (s.setMgmt x).hostOut = s.hostOut := rfl
@[simp] theorem State.setMgmt_memOut (s : State) (x : Mgmt) : (s.setMgmt x).memOut = s.memOut := rfl
@[simp] theorem State.setMgmt_free (s : State) (x : Mgmt) : (s.setMgmt x).free = s.free := rfl

@[simp] theorem State.setResetLow_pending (s : State) (x : Bool) : (s.setResetLow x).pending = s.pending := rfl
@[simp] theorem State.setResetLow_bridge (s : State) (x : Bool) : (s.setResetLow x).bridge = s.bridge := rfl
@[simp] theorem State.setResetLow_map (s : State) (x : Bool) : (s.setResetLow x).map = s.map := rfl
@[simp] theorem State.setResetLow_spares (s : State) (x : Bool) : (s.setResetLow x).spares = s.spares := rfl
@[simp] theorem State.setResetLow_queue (s : State) (x : Bool) : (s.setResetLow x).queue = s.queue := rfl
@[simp] theorem State.setResetLow_engine (s : State) (x : Bool) : (s.setResetLow x).engine = s.engine := rfl
@[simp] theorem State.setResetLow_lastTest (s : State) (x : Bool) : (s.setResetLow x).lastTest = s.lastTest := rfl
@[simp] theorem State.setResetLow_order (s : State) (x : Bool) : (s.setResetLow x).order = s.order := rfl
@[simp] theorem State.setResetLow_ops (s : State) (x : Bool) : (s.setResetLow x).ops = s.ops := rfl
@[simp] theorem State.setResetLow_suspects (s : State) (x : Bool) : (s.setResetLow x).suspects = s.suspects := rfl
@[simp] theorem State.setResetLow_inbox (s : State) (x : Bool) : (s.setResetLow x).inbox = s.inbox := rfl
@[simp] theorem State.setResetLow_patrol (s : State) (x : Bool) : (s.setResetLow x).patrol = s.patrol := rfl
@[simp] theorem State.setResetLow_ev (s : State) (x : Bool) : (s.setResetLow x).ev = s.ev := rfl
@[simp] theorem State.setResetLow_link (s : State) (x : Bool) : (s.setResetLow x).link = s.link := rfl
@[simp] theorem State.setResetLow_mem (s : State) (x : Bool) : (s.setResetLow x).mem = s.mem := rfl
@[simp] theorem State.setResetLow_mgmt (s : State) (x : Bool) : (s.setResetLow x).mgmt = s.mgmt := rfl
@[simp] theorem State.setResetLow_resetLow (s : State) (x : Bool) : (s.setResetLow x).resetLow = x := rfl
@[simp] theorem State.setResetLow_hostOut (s : State) (x : Bool) : (s.setResetLow x).hostOut = s.hostOut := rfl
@[simp] theorem State.setResetLow_memOut (s : State) (x : Bool) : (s.setResetLow x).memOut = s.memOut := rfl
@[simp] theorem State.setResetLow_free (s : State) (x : Bool) : (s.setResetLow x).free = s.free := rfl

@[simp] theorem State.setHostOut_pending (s : State) (x : List Response) : (s.setHostOut x).pending = s.pending := rfl
@[simp] theorem State.setHostOut_bridge (s : State) (x : List Response) : (s.setHostOut x).bridge = s.bridge := rfl
@[simp] theorem State.setHostOut_map (s : State) (x : List Response) : (s.setHostOut x).map = s.map := rfl
@[simp] theorem State.setHostOut_spares (s : State) (x : List Response) : (s.setHostOut x).spares = s.spares := rfl
@[simp] theorem State.setHostOut_queue (s : State) (x : List Response) : (s.setHostOut x).queue = s.queue := rfl
@[simp] theorem State.setHostOut_engine (s : State) (x : List Response) : (s.setHostOut x).engine = s.engine := rfl
@[simp] theorem State.setHostOut_lastTest (s : State) (x : List Response) : (s.setHostOut x).lastTest = s.lastTest := rfl
@[simp] theorem State.setHostOut_order (s : State) (x : List Response) : (s.setHostOut x).order = s.order := rfl
@[simp] theorem State.setHostOut_ops (s : State) (x : List Response) : (s.setHostOut x).ops = s.ops := rfl
@[simp] theorem State.setHostOut_suspects (s : State) (x : List Response) : (s.setHostOut x).suspects = s.suspects := rfl
@[simp] theorem State.setHostOut_inbox (s : State) (x : List Response) : (s.setHostOut x).inbox = s.inbox := rfl
@[simp] theorem State.setHostOut_patrol (s : State) (x : List Response) : (s.setHostOut x).patrol = s.patrol := rfl
@[simp] theorem State.setHostOut_ev (s : State) (x : List Response) : (s.setHostOut x).ev = s.ev := rfl
@[simp] theorem State.setHostOut_link (s : State) (x : List Response) : (s.setHostOut x).link = s.link := rfl
@[simp] theorem State.setHostOut_mem (s : State) (x : List Response) : (s.setHostOut x).mem = s.mem := rfl
@[simp] theorem State.setHostOut_mgmt (s : State) (x : List Response) : (s.setHostOut x).mgmt = s.mgmt := rfl
@[simp] theorem State.setHostOut_resetLow (s : State) (x : List Response) : (s.setHostOut x).resetLow = s.resetLow := rfl
@[simp] theorem State.setHostOut_hostOut (s : State) (x : List Response) : (s.setHostOut x).hostOut = x := rfl
@[simp] theorem State.setHostOut_memOut (s : State) (x : List Response) : (s.setHostOut x).memOut = s.memOut := rfl
@[simp] theorem State.setHostOut_free (s : State) (x : List Response) : (s.setHostOut x).free = s.free := rfl

@[simp] theorem State.setMemOut_pending (s : State) (x : List MemOp) : (s.setMemOut x).pending = s.pending := rfl
@[simp] theorem State.setMemOut_bridge (s : State) (x : List MemOp) : (s.setMemOut x).bridge = s.bridge := rfl
@[simp] theorem State.setMemOut_map (s : State) (x : List MemOp) : (s.setMemOut x).map = s.map := rfl
@[simp] theorem State.setMemOut_spares (s : State) (x : List MemOp) : (s.setMemOut x).spares = s.spares := rfl
@[simp] theorem State.setMemOut_queue (s : State) (x : List MemOp) : (s.setMemOut x).queue = s.queue := rfl
@[simp] theorem State.setMemOut_engine (s : State) (x : List MemOp) : (s.setMemOut x).engine = s.engine := rfl
@[simp] theorem State.setMemOut_lastTest (s : State) (x : List MemOp) : (s.setMemOut x).lastTest = s.lastTest := rfl
@[simp] theorem State.setMemOut_order (s : State) (x : List MemOp) : (s.setMemOut x).order = s.order := rfl
@[simp] theorem State.setMemOut_ops (s : State) (x : List MemOp) : (s.setMemOut x).ops = s.ops := rfl
@[simp] theorem State.setMemOut_suspects (s : State) (x : List MemOp) : (s.setMemOut x).suspects = s.suspects := rfl
@[simp] theorem State.setMemOut_inbox (s : State) (x : List MemOp) : (s.setMemOut x).inbox = s.inbox := rfl
@[simp] theorem State.setMemOut_patrol (s : State) (x : List MemOp) : (s.setMemOut x).patrol = s.patrol := rfl
@[simp] theorem State.setMemOut_ev (s : State) (x : List MemOp) : (s.setMemOut x).ev = s.ev := rfl
@[simp] theorem State.setMemOut_link (s : State) (x : List MemOp) : (s.setMemOut x).link = s.link := rfl
@[simp] theorem State.setMemOut_mem (s : State) (x : List MemOp) : (s.setMemOut x).mem = s.mem := rfl
@[simp] theorem State.setMemOut_mgmt (s : State) (x : List MemOp) : (s.setMemOut x).mgmt = s.mgmt := rfl
@[simp] theorem State.setMemOut_resetLow (s : State) (x : List MemOp) : (s.setMemOut x).resetLow = s.resetLow := rfl
@[simp] theorem State.setMemOut_hostOut (s : State) (x : List MemOp) : (s.setMemOut x).hostOut = s.hostOut := rfl
@[simp] theorem State.setMemOut_memOut (s : State) (x : List MemOp) : (s.setMemOut x).memOut = x := rfl
@[simp] theorem State.setMemOut_free (s : State) (x : List MemOp) : (s.setMemOut x).free = s.free := rfl

@[simp] theorem State.setFree_pending (s : State) (x : Nat) : (s.setFree x).pending = s.pending := rfl
@[simp] theorem State.setFree_bridge (s : State) (x : Nat) : (s.setFree x).bridge = s.bridge := rfl
@[simp] theorem State.setFree_map (s : State) (x : Nat) : (s.setFree x).map = s.map := rfl
@[simp] theorem State.setFree_spares (s : State) (x : Nat) : (s.setFree x).spares = s.spares := rfl
@[simp] theorem State.setFree_queue (s : State) (x : Nat) : (s.setFree x).queue = s.queue := rfl
@[simp] theorem State.setFree_engine (s : State) (x : Nat) : (s.setFree x).engine = s.engine := rfl
@[simp] theorem State.setFree_lastTest (s : State) (x : Nat) : (s.setFree x).lastTest = s.lastTest := rfl
@[simp] theorem State.setFree_order (s : State) (x : Nat) : (s.setFree x).order = s.order := rfl
@[simp] theorem State.setFree_ops (s : State) (x : Nat) : (s.setFree x).ops = s.ops := rfl
@[simp] theorem State.setFree_suspects (s : State) (x : Nat) : (s.setFree x).suspects = s.suspects := rfl
@[simp] theorem State.setFree_inbox (s : State) (x : Nat) : (s.setFree x).inbox = s.inbox := rfl
@[simp] theorem State.setFree_patrol (s : State) (x : Nat) : (s.setFree x).patrol = s.patrol := rfl
@[simp] theorem State.setFree_ev (s : State) (x : Nat) : (s.setFree x).ev = s.ev := rfl
@[simp] theorem State.setFree_link (s : State) (x : Nat) : (s.setFree x).link = s.link := rfl
@[simp] theorem State.setFree_mem (s : State) (x : Nat) : (s.setFree x).mem = s.mem := rfl
@[simp] theorem State.setFree_mgmt (s : State) (x : Nat) : (s.setFree x).mgmt = s.mgmt := rfl
@[simp] theorem State.setFree_resetLow (s : State) (x : Nat) : (s.setFree x).resetLow = s.resetLow := rfl
@[simp] theorem State.setFree_hostOut (s : State) (x : Nat) : (s.setFree x).hostOut = s.hostOut := rfl
@[simp] theorem State.setFree_memOut (s : State) (x : Nat) : (s.setFree x).memOut = s.memOut := rfl
@[simp] theorem State.setFree_free (s : State) (x : Nat) : (s.setFree x).free = x := rfl

end Sys2Proof.Machine
end

