-- ==== Sys2Proof/Laws/Ops.lean ====
section
/-! SUPPORT. What the shared operations of Machine/Ops.lean can do, said once: the fields each leaves alone, what logging an
event and issuing a memory operation come to, and that settling keys does nothing while no hold waits. -/

namespace Sys2Proof.Machine

/-! ### Hard reset (R185) -/

/-- With RESET_N high a happening is taken. -/
@[simp] theorem State.unlessHeld_of_high {s : State} (h : s.resetLow = false) (o : Host.Outcome State Fault Refusal) :
    s.unlessHeld o = o := by
  simp [State.unlessHeld, h]

/-- While RESET_N is low nothing is taken. -/
@[simp] theorem State.unlessHeld_of_low {s : State} (h : s.resetLow = true) (o : Host.Outcome State Fault Refusal) :
    s.unlessHeld o = .next s := by
  simp [State.unlessHeld, h]

/-- A happening leaves the state as it was, or does what its meaning says. -/
theorem State.unlessHeld_next {s t : State} {o : Host.Outcome State Fault Refusal} (h : s.unlessHeld o = .next t) :
    t = s ∨ o = .next t := by
  unfold State.unlessHeld at h
  split at h
  · cases h; exact .inl rfl
  · exact .inr h

/-! ### Logging and counting (R146, R147, R151) -/

@[simp] theorem State.logEvent_pending (s : State) (e : Event) : (s.logEvent e).pending = s.pending := rfl
@[simp] theorem State.logEvent_bridge (s : State) (e : Event) : (s.logEvent e).bridge = s.bridge := rfl
@[simp] theorem State.logEvent_map (s : State) (e : Event) : (s.logEvent e).map = s.map := rfl
@[simp] theorem State.logEvent_spares (s : State) (e : Event) : (s.logEvent e).spares = s.spares := rfl
@[simp] theorem State.logEvent_queue (s : State) (e : Event) : (s.logEvent e).queue = s.queue := rfl
@[simp] theorem State.logEvent_engine (s : State) (e : Event) : (s.logEvent e).engine = s.engine := rfl
@[simp] theorem State.logEvent_lastTest (s : State) (e : Event) : (s.logEvent e).lastTest = s.lastTest := rfl
@[simp] theorem State.logEvent_order (s : State) (e : Event) : (s.logEvent e).order = s.order := rfl
@[simp] theorem State.logEvent_ops (s : State) (e : Event) : (s.logEvent e).ops = s.ops := rfl
@[simp] theorem State.logEvent_suspects (s : State) (e : Event) : (s.logEvent e).suspects = s.suspects := rfl
@[simp] theorem State.logEvent_inbox (s : State) (e : Event) : (s.logEvent e).inbox = s.inbox := rfl
@[simp] theorem State.logEvent_patrol (s : State) (e : Event) : (s.logEvent e).patrol = s.patrol := rfl
@[simp] theorem State.logEvent_link (s : State) (e : Event) : (s.logEvent e).link = s.link := rfl
@[simp] theorem State.logEvent_mem (s : State) (e : Event) : (s.logEvent e).mem = s.mem := rfl
@[simp] theorem State.logEvent_mgmt (s : State) (e : Event) : (s.logEvent e).mgmt = s.mgmt := rfl
@[simp] theorem State.logEvent_resetLow (s : State) (e : Event) : (s.logEvent e).resetLow = s.resetLow := rfl
@[simp] theorem State.logEvent_hostOut (s : State) (e : Event) : (s.logEvent e).hostOut = s.hostOut := rfl
@[simp] theorem State.logEvent_memOut (s : State) (e : Event) : (s.logEvent e).memOut = s.memOut := rfl
@[simp] theorem State.logEvent_free (s : State) (e : Event) : (s.logEvent e).free = s.free := rfl
@[simp] theorem State.count_pending (s : State) (f : Counters → Counters) : (s.count f).pending = s.pending := rfl
@[simp] theorem State.count_bridge (s : State) (f : Counters → Counters) : (s.count f).bridge = s.bridge := rfl
@[simp] theorem State.count_map (s : State) (f : Counters → Counters) : (s.count f).map = s.map := rfl
@[simp] theorem State.count_spares (s : State) (f : Counters → Counters) : (s.count f).spares = s.spares := rfl
@[simp] theorem State.count_queue (s : State) (f : Counters → Counters) : (s.count f).queue = s.queue := rfl
@[simp] theorem State.count_engine (s : State) (f : Counters → Counters) : (s.count f).engine = s.engine := rfl
@[simp] theorem State.count_lastTest (s : State) (f : Counters → Counters) : (s.count f).lastTest = s.lastTest := rfl
@[simp] theorem State.count_order (s : State) (f : Counters → Counters) : (s.count f).order = s.order := rfl
@[simp] theorem State.count_ops (s : State) (f : Counters → Counters) : (s.count f).ops = s.ops := rfl
@[simp] theorem State.count_suspects (s : State) (f : Counters → Counters) : (s.count f).suspects = s.suspects := rfl
@[simp] theorem State.count_inbox (s : State) (f : Counters → Counters) : (s.count f).inbox = s.inbox := rfl
@[simp] theorem State.count_patrol (s : State) (f : Counters → Counters) : (s.count f).patrol = s.patrol := rfl
@[simp] theorem State.count_link (s : State) (f : Counters → Counters) : (s.count f).link = s.link := rfl
@[simp] theorem State.count_mem (s : State) (f : Counters → Counters) : (s.count f).mem = s.mem := rfl
@[simp] theorem State.count_mgmt (s : State) (f : Counters → Counters) : (s.count f).mgmt = s.mgmt := rfl
@[simp] theorem State.count_resetLow (s : State) (f : Counters → Counters) : (s.count f).resetLow = s.resetLow := rfl
@[simp] theorem State.count_hostOut (s : State) (f : Counters → Counters) : (s.count f).hostOut = s.hostOut := rfl
@[simp] theorem State.count_memOut (s : State) (f : Counters → Counters) : (s.count f).memOut = s.memOut := rfl
@[simp] theorem State.count_free (s : State) (f : Counters → Counters) : (s.count f).free = s.free := rfl
@[simp] theorem State.refreshAlert_pending (s : State) : (s.refreshAlert).pending = s.pending := rfl
@[simp] theorem State.refreshAlert_bridge (s : State) : (s.refreshAlert).bridge = s.bridge := rfl
@[simp] theorem State.refreshAlert_map (s : State) : (s.refreshAlert).map = s.map := rfl
@[simp] theorem State.refreshAlert_spares (s : State) : (s.refreshAlert).spares = s.spares := rfl
@[simp] theorem State.refreshAlert_queue (s : State) : (s.refreshAlert).queue = s.queue := rfl
@[simp] theorem State.refreshAlert_engine (s : State) : (s.refreshAlert).engine = s.engine := rfl
@[simp] theorem State.refreshAlert_lastTest (s : State) : (s.refreshAlert).lastTest = s.lastTest := rfl
@[simp] theorem State.refreshAlert_order (s : State) : (s.refreshAlert).order = s.order := rfl
@[simp] theorem State.refreshAlert_ops (s : State) : (s.refreshAlert).ops = s.ops := rfl
@[simp] theorem State.refreshAlert_suspects (s : State) : (s.refreshAlert).suspects = s.suspects := rfl
@[simp] theorem State.refreshAlert_inbox (s : State) : (s.refreshAlert).inbox = s.inbox := rfl
@[simp] theorem State.refreshAlert_patrol (s : State) : (s.refreshAlert).patrol = s.patrol := rfl
@[simp] theorem State.refreshAlert_link (s : State) : (s.refreshAlert).link = s.link := rfl
@[simp] theorem State.refreshAlert_mem (s : State) : (s.refreshAlert).mem = s.mem := rfl
@[simp] theorem State.refreshAlert_mgmt (s : State) : (s.refreshAlert).mgmt = s.mgmt := rfl
@[simp] theorem State.refreshAlert_resetLow (s : State) : (s.refreshAlert).resetLow = s.resetLow := rfl
@[simp] theorem State.refreshAlert_hostOut (s : State) : (s.refreshAlert).hostOut = s.hostOut := rfl
@[simp] theorem State.refreshAlert_memOut (s : State) : (s.refreshAlert).memOut = s.memOut := rfl
@[simp] theorem State.refreshAlert_free (s : State) : (s.refreshAlert).free = s.free := rfl
theorem State.logEvent_ev (s : State) (e : Event) : (s.logEvent e).ev =
    { s.ev.append s.patrol.pass e with alertLow := (s.setEv (s.ev.append s.patrol.pass e)).alertCondition } := rfl
theorem State.count_ev (s : State) (f : Counters → Counters) : (s.count f).ev = { s.ev with counters := f s.ev.counters } := rfl
@[simp] theorem State.logEvent_counters (s : State) (e : Event) : (s.logEvent e).ev.counters = s.ev.counters := by
  rw [State.logEvent_ev]; unfold EventUnit.append; split <;> rfl

/-! ### Bridge Control (R131, R136) -/

@[simp] theorem State.changeBridge_pending (s : State) (b : BridgeState) : (s.changeBridge b).pending = s.pending := rfl
@[simp] theorem State.changeBridge_map (s : State) (b : BridgeState) : (s.changeBridge b).map = s.map := rfl
@[simp] theorem State.changeBridge_spares (s : State) (b : BridgeState) : (s.changeBridge b).spares = s.spares := rfl
@[simp] theorem State.changeBridge_queue (s : State) (b : BridgeState) : (s.changeBridge b).queue = s.queue := rfl
@[simp] theorem State.changeBridge_engine (s : State) (b : BridgeState) : (s.changeBridge b).engine = s.engine := rfl
@[simp] theorem State.changeBridge_lastTest (s : State) (b : BridgeState) : (s.changeBridge b).lastTest = s.lastTest := rfl
@[simp] theorem State.changeBridge_order (s : State) (b : BridgeState) : (s.changeBridge b).order = s.order := rfl
@[simp] theorem State.changeBridge_ops (s : State) (b : BridgeState) : (s.changeBridge b).ops = s.ops := rfl
@[simp] theorem State.changeBridge_suspects (s : State) (b : BridgeState) : (s.changeBridge b).suspects = s.suspects := rfl
@[simp] theorem State.changeBridge_inbox (s : State) (b : BridgeState) : (s.changeBridge b).inbox = s.inbox := rfl
@[simp] theorem State.changeBridge_patrol (s : State) (b : BridgeState) : (s.changeBridge b).patrol = s.patrol := rfl
@[simp] theorem State.changeBridge_link (s : State) (b : BridgeState) : (s.changeBridge b).link = s.link := rfl
@[simp] theorem State.changeBridge_mem (s : State) (b : BridgeState) : (s.changeBridge b).mem = s.mem := rfl
@[simp] theorem State.changeBridge_mgmt (s : State) (b : BridgeState) : (s.changeBridge b).mgmt = s.mgmt := rfl
@[simp] theorem State.changeBridge_resetLow (s : State) (b : BridgeState) : (s.changeBridge b).resetLow = s.resetLow := rfl
@[simp] theorem State.changeBridge_hostOut (s : State) (b : BridgeState) : (s.changeBridge b).hostOut = s.hostOut := rfl
@[simp] theorem State.changeBridge_memOut (s : State) (b : BridgeState) : (s.changeBridge b).memOut = s.memOut := rfl
@[simp] theorem State.changeBridge_free (s : State) (b : BridgeState) : (s.changeBridge b).free = s.free := rfl
@[simp] theorem State.changeBridge_state (s : State) (b : BridgeState) : (s.changeBridge b).bridge.state = b := rfl
@[simp] theorem State.changeBridge_history (s : State) (b : BridgeState) :
    (s.changeBridge b).bridge.history = pushHistory s.bridge.state s.bridge.history := rfl
theorem pushHistory_length (b : BridgeState) (h : List BridgeState) : (pushHistory b h).length ≤ 4 := by
  simp [pushHistory]
@[simp] theorem State.handFromMemory_pending (s : State) (r : ContainRequest) : (s.handFromMemory r).pending = s.pending := rfl
@[simp] theorem State.handFromMemory_map (s : State) (r : ContainRequest) : (s.handFromMemory r).map = s.map := rfl
@[simp] theorem State.handFromMemory_spares (s : State) (r : ContainRequest) : (s.handFromMemory r).spares = s.spares := rfl
@[simp] theorem State.handFromMemory_queue (s : State) (r : ContainRequest) : (s.handFromMemory r).queue = s.queue := rfl
@[simp] theorem State.handFromMemory_engine (s : State) (r : ContainRequest) : (s.handFromMemory r).engine = s.engine := rfl
@[simp] theorem State.handFromMemory_lastTest (s : State) (r : ContainRequest) : (s.handFromMemory r).lastTest = s.lastTest := rfl
@[simp] theorem State.handFromMemory_order (s : State) (r : ContainRequest) : (s.handFromMemory r).order = s.order := rfl
@[simp] theorem State.handFromMemory_ops (s : State) (r : ContainRequest) : (s.handFromMemory r).ops = s.ops := rfl
@[simp] theorem State.handFromMemory_suspects (s : State) (r : ContainRequest) : (s.handFromMemory r).suspects = s.suspects := rfl
@[simp] theorem State.handFromMemory_inbox (s : State) (r : ContainRequest) : (s.handFromMemory r).inbox = s.inbox := rfl
@[simp] theorem State.handFromMemory_patrol (s : State) (r : ContainRequest) : (s.handFromMemory r).patrol = s.patrol := rfl
@[simp] theorem State.handFromMemory_ev (s : State) (r : ContainRequest) : (s.handFromMemory r).ev = s.ev := rfl
@[simp] theorem State.handFromMemory_link (s : State) (r : ContainRequest) : (s.handFromMemory r).link = s.link := rfl
@[simp] theorem State.handFromMemory_mem (s : State) (r : ContainRequest) : (s.handFromMemory r).mem = s.mem := rfl
@[simp] theorem State.handFromMemory_mgmt (s : State) (r : ContainRequest) : (s.handFromMemory r).mgmt = s.mgmt := rfl
@[simp] theorem State.handFromMemory_resetLow (s : State) (r : ContainRequest) : (s.handFromMemory r).resetLow = s.resetLow := rfl
@[simp] theorem State.handFromMemory_hostOut (s : State) (r : ContainRequest) : (s.handFromMemory r).hostOut = s.hostOut := rfl
@[simp] theorem State.handFromMemory_memOut (s : State) (r : ContainRequest) : (s.handFromMemory r).memOut = s.memOut := rfl
@[simp] theorem State.handFromMemory_free (s : State) (r : ContainRequest) : (s.handFromMemory r).free = s.free := rfl
@[simp] theorem State.handFromHandler_pending (s : State) (r : ContainRequest) : (s.handFromHandler r).pending = s.pending := rfl
@[simp] theorem State.handFromHandler_map (s : State) (r : ContainRequest) : (s.handFromHandler r).map = s.map := rfl
@[simp] theorem State.handFromHandler_spares (s : State) (r : ContainRequest) : (s.handFromHandler r).spares = s.spares := rfl
@[simp] theorem State.handFromHandler_queue (s : State) (r : ContainRequest) : (s.handFromHandler r).queue = s.queue := rfl
@[simp] theorem State.handFromHandler_engine (s : State) (r : ContainRequest) : (s.handFromHandler r).engine = s.engine := rfl
@[simp] theorem State.handFromHandler_lastTest (s : State) (r : ContainRequest) : (s.handFromHandler r).lastTest = s.lastTest := rfl
@[simp] theorem State.handFromHandler_order (s : State) (r : ContainRequest) : (s.handFromHandler r).order = s.order := rfl
@[simp] theorem State.handFromHandler_ops (s : State) (r : ContainRequest) : (s.handFromHandler r).ops = s.ops := rfl
@[simp] theorem State.handFromHandler_suspects (s : State) (r : ContainRequest) : (s.handFromHandler r).suspects = s.suspects := rfl
@[simp] theorem State.handFromHandler_inbox (s : State) (r : ContainRequest) : (s.handFromHandler r).inbox = s.inbox := rfl
@[simp] theorem State.handFromHandler_patrol (s : State) (r : ContainRequest) : (s.handFromHandler r).patrol = s.patrol := rfl
@[simp] theorem State.handFromHandler_ev (s : State) (r : ContainRequest) : (s.handFromHandler r).ev = s.ev := rfl
@[simp] theorem State.handFromHandler_link (s : State) (r : ContainRequest) : (s.handFromHandler r).link = s.link := rfl
@[simp] theorem State.handFromHandler_mem (s : State) (r : ContainRequest) : (s.handFromHandler r).mem = s.mem := rfl
@[simp] theorem State.handFromHandler_mgmt (s : State) (r : ContainRequest) : (s.handFromHandler r).mgmt = s.mgmt := rfl
@[simp] theorem State.handFromHandler_resetLow (s : State) (r : ContainRequest) : (s.handFromHandler r).resetLow = s.resetLow := rfl
@[simp] theorem State.handFromHandler_hostOut (s : State) (r : ContainRequest) : (s.handFromHandler r).hostOut = s.hostOut := rfl
@[simp] theorem State.handFromHandler_memOut (s : State) (r : ContainRequest) : (s.handFromHandler r).memOut = s.memOut := rfl
@[simp] theorem State.handFromHandler_free (s : State) (r : ContainRequest) : (s.handFromHandler r).free = s.free := rfl

/-! ### Health Tracker and replies -/

@[simp] theorem State.hand_pending (s : State) (x : Handed) : (s.hand x).pending = s.pending := rfl
@[simp] theorem State.hand_bridge (s : State) (x : Handed) : (s.hand x).bridge = s.bridge := rfl
@[simp] theorem State.hand_map (s : State) (x : Handed) : (s.hand x).map = s.map := rfl
@[simp] theorem State.hand_spares (s : State) (x : Handed) : (s.hand x).spares = s.spares := rfl
@[simp] theorem State.hand_queue (s : State) (x : Handed) : (s.hand x).queue = s.queue := rfl
@[simp] theorem State.hand_engine (s : State) (x : Handed) : (s.hand x).engine = s.engine := rfl
@[simp] theorem State.hand_lastTest (s : State) (x : Handed) : (s.hand x).lastTest = s.lastTest := rfl
@[simp] theorem State.hand_order (s : State) (x : Handed) : (s.hand x).order = s.order := rfl
@[simp] theorem State.hand_ops (s : State) (x : Handed) : (s.hand x).ops = s.ops := rfl
@[simp] theorem State.hand_suspects (s : State) (x : Handed) : (s.hand x).suspects = s.suspects := rfl
@[simp] theorem State.hand_patrol (s : State) (x : Handed) : (s.hand x).patrol = s.patrol := rfl
@[simp] theorem State.hand_ev (s : State) (x : Handed) : (s.hand x).ev = s.ev := rfl
@[simp] theorem State.hand_link (s : State) (x : Handed) : (s.hand x).link = s.link := rfl
@[simp] theorem State.hand_mem (s : State) (x : Handed) : (s.hand x).mem = s.mem := rfl
@[simp] theorem State.hand_mgmt (s : State) (x : Handed) : (s.hand x).mgmt = s.mgmt := rfl
@[simp] theorem State.hand_resetLow (s : State) (x : Handed) : (s.hand x).resetLow = s.resetLow := rfl
@[simp] theorem State.hand_hostOut (s : State) (x : Handed) : (s.hand x).hostOut = s.hostOut := rfl
@[simp] theorem State.hand_memOut (s : State) (x : Handed) : (s.hand x).memOut = s.memOut := rfl
@[simp] theorem State.hand_free (s : State) (x : Handed) : (s.hand x).free = s.free := rfl
@[simp] theorem State.hand_inbox (s : State) (x : Handed) : (s.hand x).inbox = s.inbox ++ [x] := rfl

/-! ### Spare Pool -/

@[simp] theorem State.setSpare_pending (s : State) (i : Nat) (x : SpareState) : (s.setSpare i x).pending = s.pending := rfl
@[simp] theorem State.setSpare_bridge (s : State) (i : Nat) (x : SpareState) : (s.setSpare i x).bridge = s.bridge := rfl
@[simp] theorem State.setSpare_map (s : State) (i : Nat) (x : SpareState) : (s.setSpare i x).map = s.map := rfl
@[simp] theorem State.setSpare_queue (s : State) (i : Nat) (x : SpareState) : (s.setSpare i x).queue = s.queue := rfl
@[simp] theorem State.setSpare_engine (s : State) (i : Nat) (x : SpareState) : (s.setSpare i x).engine = s.engine := rfl
@[simp] theorem State.setSpare_lastTest (s : State) (i : Nat) (x : SpareState) : (s.setSpare i x).lastTest = s.lastTest := rfl
@[simp] theorem State.setSpare_order (s : State) (i : Nat) (x : SpareState) : (s.setSpare i x).order = s.order := rfl
@[simp] theorem State.setSpare_ops (s : State) (i : Nat) (x : SpareState) : (s.setSpare i x).ops = s.ops := rfl
@[simp] theorem State.setSpare_suspects (s : State) (i : Nat) (x : SpareState) : (s.setSpare i x).suspects = s.suspects := rfl
@[simp] theorem State.setSpare_inbox (s : State) (i : Nat) (x : SpareState) : (s.setSpare i x).inbox = s.inbox := rfl
@[simp] theorem State.setSpare_patrol (s : State) (i : Nat) (x : SpareState) : (s.setSpare i x).patrol = s.patrol := rfl
@[simp] theorem State.setSpare_ev (s : State) (i : Nat) (x : SpareState) : (s.setSpare i x).ev = s.ev := rfl
@[simp] theorem State.setSpare_link (s : State) (i : Nat) (x : SpareState) : (s.setSpare i x).link = s.link := rfl
@[simp] theorem State.setSpare_mem (s : State) (i : Nat) (x : SpareState) : (s.setSpare i x).mem = s.mem := rfl
@[simp] theorem State.setSpare_mgmt (s : State) (i : Nat) (x : SpareState) : (s.setSpare i x).mgmt = s.mgmt := rfl
@[simp] theorem State.setSpare_resetLow (s : State) (i : Nat) (x : SpareState) : (s.setSpare i x).resetLow = s.resetLow := rfl
@[simp] theorem State.setSpare_hostOut (s : State) (i : Nat) (x : SpareState) : (s.setSpare i x).hostOut = s.hostOut := rfl
@[simp] theorem State.setSpare_memOut (s : State) (i : Nat) (x : SpareState) : (s.setSpare i x).memOut = s.memOut := rfl
@[simp] theorem State.setSpare_free (s : State) (i : Nat) (x : SpareState) : (s.setSpare i x).free = s.free := rfl
@[simp] theorem State.setSpare_spares (s : State) (i : Nat) (x : SpareState) : (s.setSpare i x).spares = s.spares.set i x := rfl

/-! ### Line Order Unit (R61, R65, R66, R68) -/

@[simp] theorem State.addHold_pending (s : State) (k : Key) (o : Owner) : (s.addHold k o).pending = s.pending := rfl
@[simp] theorem State.addHold_bridge (s : State) (k : Key) (o : Owner) : (s.addHold k o).bridge = s.bridge := rfl
@[simp] theorem State.addHold_map (s : State) (k : Key) (o : Owner) : (s.addHold k o).map = s.map := rfl
@[simp] theorem State.addHold_spares (s : State) (k : Key) (o : Owner) : (s.addHold k o).spares = s.spares := rfl
@[simp] theorem State.addHold_queue (s : State) (k : Key) (o : Owner) : (s.addHold k o).queue = s.queue := rfl
@[simp] theorem State.addHold_engine (s : State) (k : Key) (o : Owner) : (s.addHold k o).engine = s.engine := rfl
@[simp] theorem State.addHold_lastTest (s : State) (k : Key) (o : Owner) : (s.addHold k o).lastTest = s.lastTest := rfl
@[simp] theorem State.addHold_ops (s : State) (k : Key) (o : Owner) : (s.addHold k o).ops = s.ops := rfl
@[simp] theorem State.addHold_suspects (s : State) (k : Key) (o : Owner) : (s.addHold k o).suspects = s.suspects := rfl
@[simp] theorem State.addHold_inbox (s : State) (k : Key) (o : Owner) : (s.addHold k o).inbox = s.inbox := rfl
@[simp] theorem State.addHold_patrol (s : State) (k : Key) (o : Owner) : (s.addHold k o).patrol = s.patrol := rfl
@[simp] theorem State.addHold_ev (s : State) (k : Key) (o : Owner) : (s.addHold k o).ev = s.ev := rfl
@[simp] theorem State.addHold_link (s : State) (k : Key) (o : Owner) : (s.addHold k o).link = s.link := rfl
@[simp] theorem State.addHold_mem (s : State) (k : Key) (o : Owner) : (s.addHold k o).mem = s.mem := rfl
@[simp] theorem State.addHold_mgmt (s : State) (k : Key) (o : Owner) : (s.addHold k o).mgmt = s.mgmt := rfl
@[simp] theorem State.addHold_resetLow (s : State) (k : Key) (o : Owner) : (s.addHold k o).resetLow = s.resetLow := rfl
@[simp] theorem State.addHold_hostOut (s : State) (k : Key) (o : Owner) : (s.addHold k o).hostOut = s.hostOut := rfl
@[simp] theorem State.addHold_memOut (s : State) (k : Key) (o : Owner) : (s.addHold k o).memOut = s.memOut := rfl
@[simp] theorem State.addHold_free (s : State) (k : Key) (o : Owner) : (s.addHold k o).free = s.free := rfl
@[simp] theorem State.removeHold_pending (s : State) (o : Owner) : (s.removeHold o).pending = s.pending := rfl
@[simp] theorem State.removeHold_bridge (s : State) (o : Owner) : (s.removeHold o).bridge = s.bridge := rfl
@[simp] theorem State.removeHold_map (s : State) (o : Owner) : (s.removeHold o).map = s.map := rfl
@[simp] theorem State.removeHold_spares (s : State) (o : Owner) : (s.removeHold o).spares = s.spares := rfl
@[simp] theorem State.removeHold_queue (s : State) (o : Owner) : (s.removeHold o).queue = s.queue := rfl
@[simp] theorem State.removeHold_engine (s : State) (o : Owner) : (s.removeHold o).engine = s.engine := rfl
@[simp] theorem State.removeHold_lastTest (s : State) (o : Owner) : (s.removeHold o).lastTest = s.lastTest := rfl
@[simp] theorem State.removeHold_ops (s : State) (o : Owner) : (s.removeHold o).ops = s.ops := rfl
@[simp] theorem State.removeHold_suspects (s : State) (o : Owner) : (s.removeHold o).suspects = s.suspects := rfl
@[simp] theorem State.removeHold_inbox (s : State) (o : Owner) : (s.removeHold o).inbox = s.inbox := rfl
@[simp] theorem State.removeHold_patrol (s : State) (o : Owner) : (s.removeHold o).patrol = s.patrol := rfl
@[simp] theorem State.removeHold_ev (s : State) (o : Owner) : (s.removeHold o).ev = s.ev := rfl
@[simp] theorem State.removeHold_link (s : State) (o : Owner) : (s.removeHold o).link = s.link := rfl
@[simp] theorem State.removeHold_mem (s : State) (o : Owner) : (s.removeHold o).mem = s.mem := rfl
@[simp] theorem State.removeHold_mgmt (s : State) (o : Owner) : (s.removeHold o).mgmt = s.mgmt := rfl
@[simp] theorem State.removeHold_resetLow (s : State) (o : Owner) : (s.removeHold o).resetLow = s.resetLow := rfl
@[simp] theorem State.removeHold_hostOut (s : State) (o : Owner) : (s.removeHold o).hostOut = s.hostOut := rfl
@[simp] theorem State.removeHold_memOut (s : State) (o : Owner) : (s.removeHold o).memOut = s.memOut := rfl
@[simp] theorem State.removeHold_free (s : State) (o : Owner) : (s.removeHold o).free = s.free := rfl
@[simp] theorem State.activate_pending (s : State) (k : Key) : (s.activate k).pending = s.pending := rfl
@[simp] theorem State.activate_bridge (s : State) (k : Key) : (s.activate k).bridge = s.bridge := rfl
@[simp] theorem State.activate_map (s : State) (k : Key) : (s.activate k).map = s.map := rfl
@[simp] theorem State.activate_spares (s : State) (k : Key) : (s.activate k).spares = s.spares := rfl
@[simp] theorem State.activate_queue (s : State) (k : Key) : (s.activate k).queue = s.queue := rfl
@[simp] theorem State.activate_engine (s : State) (k : Key) : (s.activate k).engine = s.engine := rfl
@[simp] theorem State.activate_lastTest (s : State) (k : Key) : (s.activate k).lastTest = s.lastTest := rfl
@[simp] theorem State.activate_ops (s : State) (k : Key) : (s.activate k).ops = s.ops := rfl
@[simp] theorem State.activate_suspects (s : State) (k : Key) : (s.activate k).suspects = s.suspects := rfl
@[simp] theorem State.activate_inbox (s : State) (k : Key) : (s.activate k).inbox = s.inbox := rfl
@[simp] theorem State.activate_patrol (s : State) (k : Key) : (s.activate k).patrol = s.patrol := rfl
@[simp] theorem State.activate_ev (s : State) (k : Key) : (s.activate k).ev = s.ev := rfl
@[simp] theorem State.activate_link (s : State) (k : Key) : (s.activate k).link = s.link := rfl
@[simp] theorem State.activate_mem (s : State) (k : Key) : (s.activate k).mem = s.mem := rfl
@[simp] theorem State.activate_mgmt (s : State) (k : Key) : (s.activate k).mgmt = s.mgmt := rfl
@[simp] theorem State.activate_resetLow (s : State) (k : Key) : (s.activate k).resetLow = s.resetLow := rfl
@[simp] theorem State.activate_hostOut (s : State) (k : Key) : (s.activate k).hostOut = s.hostOut := rfl
@[simp] theorem State.activate_memOut (s : State) (k : Key) : (s.activate k).memOut = s.memOut := rfl
@[simp] theorem State.activate_free (s : State) (k : Key) : (s.activate k).free = s.free := rfl
@[simp] theorem State.removeHold_entries (s : State) (o : Owner) :
    (s.removeHold o).order.entries = s.order.entries.filter fun e => e.owner ≠ o := rfl
@[simp] theorem State.activate_entries (s : State) (k : Key) :
    (s.activate k).order.entries = activateOldest k s.order.entries := rfl

/-! ### Host operations -/

@[simp] theorem State.putOp_pending (s : State) (op : HostOp) : (s.putOp op).pending = s.pending := rfl
@[simp] theorem State.putOp_bridge (s : State) (op : HostOp) : (s.putOp op).bridge = s.bridge := rfl
@[simp] theorem State.putOp_map (s : State) (op : HostOp) : (s.putOp op).map = s.map := rfl
@[simp] theorem State.putOp_spares (s : State) (op : HostOp) : (s.putOp op).spares = s.spares := rfl
@[simp] theorem State.putOp_queue (s : State) (op : HostOp) : (s.putOp op).queue = s.queue := rfl
@[simp] theorem State.putOp_engine (s : State) (op : HostOp) : (s.putOp op).engine = s.engine := rfl
@[simp] theorem State.putOp_lastTest (s : State) (op : HostOp) : (s.putOp op).lastTest = s.lastTest := rfl
@[simp] theorem State.putOp_order (s : State) (op : HostOp) : (s.putOp op).order = s.order := rfl
@[simp] theorem State.putOp_suspects (s : State) (op : HostOp) : (s.putOp op).suspects = s.suspects := rfl
@[simp] theorem State.putOp_inbox (s : State) (op : HostOp) : (s.putOp op).inbox = s.inbox := rfl
@[simp] theorem State.putOp_patrol (s : State) (op : HostOp) : (s.putOp op).patrol = s.patrol := rfl
@[simp] theorem State.putOp_ev (s : State) (op : HostOp) : (s.putOp op).ev = s.ev := rfl
@[simp] theorem State.putOp_link (s : State) (op : HostOp) : (s.putOp op).link = s.link := rfl
@[simp] theorem State.putOp_mem (s : State) (op : HostOp) : (s.putOp op).mem = s.mem := rfl
@[simp] theorem State.putOp_mgmt (s : State) (op : HostOp) : (s.putOp op).mgmt = s.mgmt := rfl
@[simp] theorem State.putOp_resetLow (s : State) (op : HostOp) : (s.putOp op).resetLow = s.resetLow := rfl
@[simp] theorem State.putOp_hostOut (s : State) (op : HostOp) : (s.putOp op).hostOut = s.hostOut := rfl
@[simp] theorem State.putOp_memOut (s : State) (op : HostOp) : (s.putOp op).memOut = s.memOut := rfl
@[simp] theorem State.putOp_free (s : State) (op : HostOp) : (s.putOp op).free = s.free := rfl

/-! ### Memory Port (R165, R170) -/

@[simp] theorem State.sendOp_pending (s : State) (t : Fin 64) (r : IssueReq) : (s.sendOp t r).pending = s.pending := rfl
@[simp] theorem State.sendOp_bridge (s : State) (t : Fin 64) (r : IssueReq) : (s.sendOp t r).bridge = s.bridge := rfl
@[simp] theorem State.sendOp_map (s : State) (t : Fin 64) (r : IssueReq) : (s.sendOp t r).map = s.map := rfl
@[simp] theorem State.sendOp_spares (s : State) (t : Fin 64) (r : IssueReq) : (s.sendOp t r).spares = s.spares := rfl
@[simp] theorem State.sendOp_queue (s : State) (t : Fin 64) (r : IssueReq) : (s.sendOp t r).queue = s.queue := rfl
@[simp] theorem State.sendOp_engine (s : State) (t : Fin 64) (r : IssueReq) : (s.sendOp t r).engine = s.engine := rfl
@[simp] theorem State.sendOp_lastTest (s : State) (t : Fin 64) (r : IssueReq) : (s.sendOp t r).lastTest = s.lastTest := rfl
@[simp] theorem State.sendOp_order (s : State) (t : Fin 64) (r : IssueReq) : (s.sendOp t r).order = s.order := rfl
@[simp] theorem State.sendOp_ops (s : State) (t : Fin 64) (r : IssueReq) : (s.sendOp t r).ops = s.ops := rfl
@[simp] theorem State.sendOp_suspects (s : State) (t : Fin 64) (r : IssueReq) : (s.sendOp t r).suspects = s.suspects := rfl
@[simp] theorem State.sendOp_inbox (s : State) (t : Fin 64) (r : IssueReq) : (s.sendOp t r).inbox = s.inbox := rfl
@[simp] theorem State.sendOp_patrol (s : State) (t : Fin 64) (r : IssueReq) : (s.sendOp t r).patrol = s.patrol := rfl
@[simp] theorem State.sendOp_ev (s : State) (t : Fin 64) (r : IssueReq) : (s.sendOp t r).ev = s.ev := rfl
@[simp] theorem State.sendOp_link (s : State) (t : Fin 64) (r : IssueReq) : (s.sendOp t r).link = s.link := rfl
@[simp] theorem State.sendOp_mgmt (s : State) (t : Fin 64) (r : IssueReq) : (s.sendOp t r).mgmt = s.mgmt := rfl
@[simp] theorem State.sendOp_resetLow (s : State) (t : Fin 64) (r : IssueReq) : (s.sendOp t r).resetLow = s.resetLow := rfl
@[simp] theorem State.sendOp_hostOut (s : State) (t : Fin 64) (r : IssueReq) : (s.sendOp t r).hostOut = s.hostOut := rfl
@[simp] theorem State.sendOp_free (s : State) (t : Fin 64) (r : IssueReq) : (s.sendOp t r).free = s.free := rfl
@[simp] theorem State.defer_pending (s : State) (r : IssueReq) : (s.defer r).pending = s.pending := rfl
@[simp] theorem State.defer_bridge (s : State) (r : IssueReq) : (s.defer r).bridge = s.bridge := rfl
@[simp] theorem State.defer_map (s : State) (r : IssueReq) : (s.defer r).map = s.map := rfl
@[simp] theorem State.defer_spares (s : State) (r : IssueReq) : (s.defer r).spares = s.spares := rfl
@[simp] theorem State.defer_queue (s : State) (r : IssueReq) : (s.defer r).queue = s.queue := rfl
@[simp] theorem State.defer_engine (s : State) (r : IssueReq) : (s.defer r).engine = s.engine := rfl
@[simp] theorem State.defer_lastTest (s : State) (r : IssueReq) : (s.defer r).lastTest = s.lastTest := rfl
@[simp] theorem State.defer_order (s : State) (r : IssueReq) : (s.defer r).order = s.order := rfl
@[simp] theorem State.defer_ops (s : State) (r : IssueReq) : (s.defer r).ops = s.ops := rfl
@[simp] theorem State.defer_suspects (s : State) (r : IssueReq) : (s.defer r).suspects = s.suspects := rfl
@[simp] theorem State.defer_inbox (s : State) (r : IssueReq) : (s.defer r).inbox = s.inbox := rfl
@[simp] theorem State.defer_patrol (s : State) (r : IssueReq) : (s.defer r).patrol = s.patrol := rfl
@[simp] theorem State.defer_ev (s : State) (r : IssueReq) : (s.defer r).ev = s.ev := rfl
@[simp] theorem State.defer_link (s : State) (r : IssueReq) : (s.defer r).link = s.link := rfl
@[simp] theorem State.defer_mgmt (s : State) (r : IssueReq) : (s.defer r).mgmt = s.mgmt := rfl
@[simp] theorem State.defer_resetLow (s : State) (r : IssueReq) : (s.defer r).resetLow = s.resetLow := rfl
@[simp] theorem State.defer_hostOut (s : State) (r : IssueReq) : (s.defer r).hostOut = s.hostOut := rfl
@[simp] theorem State.defer_memOut (s : State) (r : IssueReq) : (s.defer r).memOut = s.memOut := rfl
@[simp] theorem State.defer_free (s : State) (r : IssueReq) : (s.defer r).free = s.free := rfl
/-! ### Replies (R175) -/

@[simp] theorem State.reply_pending (s : State) (st : Status) (b : List Byte) : (s.reply st b).pending = s.pending := rfl
@[simp] theorem State.reply_bridge (s : State) (st : Status) (b : List Byte) : (s.reply st b).bridge = s.bridge := rfl
@[simp] theorem State.reply_map (s : State) (st : Status) (b : List Byte) : (s.reply st b).map = s.map := rfl
@[simp] theorem State.reply_spares (s : State) (st : Status) (b : List Byte) : (s.reply st b).spares = s.spares := rfl
@[simp] theorem State.reply_queue (s : State) (st : Status) (b : List Byte) : (s.reply st b).queue = s.queue := rfl
@[simp] theorem State.reply_engine (s : State) (st : Status) (b : List Byte) : (s.reply st b).engine = s.engine := rfl
@[simp] theorem State.reply_lastTest (s : State) (st : Status) (b : List Byte) : (s.reply st b).lastTest = s.lastTest := rfl
@[simp] theorem State.reply_order (s : State) (st : Status) (b : List Byte) : (s.reply st b).order = s.order := rfl
@[simp] theorem State.reply_ops (s : State) (st : Status) (b : List Byte) : (s.reply st b).ops = s.ops := rfl
@[simp] theorem State.reply_suspects (s : State) (st : Status) (b : List Byte) : (s.reply st b).suspects = s.suspects := rfl
@[simp] theorem State.reply_inbox (s : State) (st : Status) (b : List Byte) : (s.reply st b).inbox = s.inbox := rfl
@[simp] theorem State.reply_patrol (s : State) (st : Status) (b : List Byte) : (s.reply st b).patrol = s.patrol := rfl
@[simp] theorem State.reply_ev (s : State) (st : Status) (b : List Byte) : (s.reply st b).ev = s.ev := rfl
@[simp] theorem State.reply_link (s : State) (st : Status) (b : List Byte) : (s.reply st b).link = s.link := rfl
@[simp] theorem State.reply_mem (s : State) (st : Status) (b : List Byte) : (s.reply st b).mem = s.mem := rfl
@[simp] theorem State.reply_resetLow (s : State) (st : Status) (b : List Byte) : (s.reply st b).resetLow = s.resetLow := rfl
@[simp] theorem State.reply_hostOut (s : State) (st : Status) (b : List Byte) : (s.reply st b).hostOut = s.hostOut := rfl
@[simp] theorem State.reply_memOut (s : State) (st : Status) (b : List Byte) : (s.reply st b).memOut = s.memOut := rfl
@[simp] theorem State.reply_free (s : State) (st : Status) (b : List Byte) : (s.reply st b).free = s.free := rfl
@[simp] theorem State.reply_reply (s : State) (st : Status) (b : List Byte) : (s.reply st b).mgmt.reply = ⟨st, b⟩ := rfl
@[simp] theorem State.reply_params (s : State) (st : Status) (b : List Byte) :
    (s.reply st b).mgmt.params = s.mgmt.params := rfl

end Sys2Proof.Machine
end

