-- ==== Sys2Proof/Laws/Holds.lean ====
section
/-! SUPPORT. What a release, a hold request and an issue come to: while no hold waits a release activates nothing, and a
request on a free key activates its own hold. -/

namespace Sys2Proof.Machine

/-! ### Issue (R165, R170) -/

/-- The lowest free tag is the one that R165 names. -/
theorem MemPort.lowestTag_of_nextTag {m : MemPort} {t : Fin 64} (h : m.NextTag t) : m.lowestTag = some t := by
  obtain ⟨ht, hu⟩ := h
  unfold MemPort.lowestTag
  rw [List.find?_eq_some_iff_append]
  refine ⟨ht, (List.finRange 64).take t.val, (List.finRange 64).drop (t.val + 1), ?_, ?_⟩
  · have hl : t.val < (List.finRange 64).length := by simp
    have hg : (List.finRange 64)[t.val] = t := by simp
    calc List.finRange 64 = (List.finRange 64).take t.val ++ (List.finRange 64).drop t.val :=
          (List.take_append_drop _ _).symm
      _ = _ := by rw [List.drop_eq_getElem_cons hl, hg]
  · intro a ha
    have : a < t := by
      obtain ⟨i, hi, rfl⟩ := List.mem_iff_getElem.mp ha
      simp only [List.length_take, List.length_finRange] at hi
      simp only [List.getElem_take, List.getElem_finRange, Fin.lt_def]
      simp; omega
    simp [hu a this]

/-- Where the Memory Port can issue at once it issues under the lowest free tag. -/
theorem State.issue_of_canIssue {s : State} {t : Fin 64} (h : s.CanIssue t) (r : IssueReq) :
    s.issue r = s.issued t r.owner r.kind r.line := by
  obtain ⟨h1, h2, h3⟩ := h
  unfold State.issue
  rw [if_neg h1, if_neg (by omega), MemPort.lowestTag_of_nextTag h3]
  rfl

/-! ### Settling (R65 to R68) -/

/-- A key on which a hold is ACTIVE has no next owner. -/
theorem State.nextOwner_of_active {s : State} {k : Key} {e : Hold} (he : e ∈ s.order.entries) (hk : e.key = k)
    (ha : e.active = true) : s.nextOwner k = none := by
  have : (s.holdsOn k).any (·.active) = true := by
    simp only [List.any_eq_true]
    exact ⟨e, by simp [State.holdsOn, he, hk], ha⟩
  unfold State.nextOwner
  rw [if_pos this]

/-- A key with no entry has no next owner. -/
theorem State.nextOwner_of_keyFree {s : State} {k : Key} (h : s.KeyFree k) : s.nextOwner k = none := by
  have : s.holdsOn k = [] := by
    simp only [State.holdsOn, List.filter_eq_nil_iff, decide_eq_true_eq]
    exact h
  simp [State.nextOwner, this]

/-- While no hold waits no key has a next owner. -/
theorem State.nextOwner_of_noneWaits {s : State} (h : s.NoneWaits) (k : Key) : s.nextOwner k = none := by
  by_cases hk : s.KeyFree k
  · exact State.nextOwner_of_keyFree hk
  · simp only [State.KeyFree, not_forall, not_not] at hk
    obtain ⟨e, he, hk⟩ := hk
    exact State.nextOwner_of_active he hk (h e he)

/-- While no hold waits settling changes nothing. -/
theorem State.settle_of_noneWaits {s : State} (h : s.NoneWaits) : ∀ (n : Nat) (ks : List Key), State.settle n ks s = s
  | 0, _ => rfl
  | _ + 1, [] => rfl
  | n + 1, k :: ks => by
    simp only [State.settle, State.nextOwner_of_noneWaits h k]
    exact State.settle_of_noneWaits h n ks

@[simp] theorem State.settle_nil (n : Nat) (s : State) : State.settle n [] s = s := by cases n <;> rfl

/-- Outside FORMAT the format cursor has no notice to take. -/
theorem State.formatNotice_of_ne {s : State} (h : s.bridge.state ≠ .format) : s.formatNotice = s := by
  unfold State.formatNotice
  cases s.bridge.cursor <;> simp [h]

/-- While no hold waits, and outside FORMAT, a release activates nothing. -/
theorem State.afterRelease_of_noneWaits {s : State} (h : s.NoneWaits) (hf : s.bridge.state ≠ .format) (o : Option Hold) :
    s.afterRelease o = s := by
  cases o with
  | none => exact State.formatNotice_of_ne hf
  | some e =>
    simp only [State.afterRelease, State.settleKeys, State.settle_of_noneWaits h]
    exact State.formatNotice_of_ne hf

/-- Removing a hold leaves none waiting. -/
theorem State.NoneWaits.removeHold {s : State} (h : s.NoneWaits) (o : Owner) : (s.removeHold o).NoneWaits := by
  intro e he
  simp only [State.removeHold_entries, List.mem_filter] at he
  exact h e he.1

/-! ### What R67 holds back -/

/-- A hold is held back exactly when the table holds an entry on PHYS(p) for a line p that its owner would touch. -/
theorem State.heldBack_iff {s : State} {e : Hold} :
    s.heldBack e = true ↔ ∃ p ∈ s.touches e, ∃ x ∈ s.order.entries, x.key = .phys p := by
  simp [State.heldBack]

/-- A hold whose lines are free of PHYS holds is not held back. -/
theorem State.heldBack_of_keyFree {s : State} {e : Hold} (h : ∀ p ∈ s.touches e, s.KeyFree (.phys p)) :
    s.heldBack e = false := by
  rw [← Bool.not_eq_true, State.heldBack_iff]
  rintro ⟨p, hp, x, hx, hk⟩
  exact h p hp x hx hk

/-! ### A request on a free key -/

/-- Appending to a free key and activating its oldest entry activates the entry appended. -/
theorem activateOldest_append {k : Key} {es : List Hold} (h : ∀ e ∈ es, e.key ≠ k) (e : Hold) (he : e.key = k) :
    activateOldest k (es ++ [e]) = es ++ [{ e with active := true }] := by
  induction es with
  | nil => simp [activateOldest, he]
  | cons x xs ih =>
    have hx := h x (by simp)
    simp [activateOldest, hx, ih fun y hy => h y (by simp [hy])]

/-- A request on a free key that R67 does not hold back becomes ACTIVE at once and its owner acts; nothing else becomes
ACTIVE when the owner keeps its hold or leaves the key free. -/
theorem State.requestHold_of_keyFree {s t : State} {k : Key} {o : Owner} (hk : s.KeyFree k)
    (hb : (s.addHold k o).heldBack ⟨k, o, false, s.order.nextArrival, false⟩ = false)
    (ht : (s.setOrder (s.order.append k o true)).begin o = (t, [])) (hn : t.nextOwner k = none) :
    s.requestHold k o = t := by
  have ho : (s.addHold k o).holdsOn k = [⟨k, o, false, s.order.nextArrival, false⟩] := by
    have hk' : s.order.entries.filter (fun e => e.key = k) = [] := by
      simp only [List.filter_eq_nil_iff, decide_eq_true_eq]
      exact hk
    simp [State.holdsOn, State.addHold, hk']
  have hnext : (s.addHold k o).nextOwner k = some o := by
    simp [State.nextOwner, ho, hb]
  have hact : (s.addHold k o).activate k = s.setOrder (s.order.append k o true) := by
    simp only [State.activate, State.addHold, State.setOrder, LineOrder.append]
    rw [activateOldest_append hk _ rfl]
  simp only [State.requestHold, State.settleKeys, State.settle, hnext, hact, ht, List.append_nil, hn]

end Sys2Proof.Machine
end

