-- ==== Sys2Proof/Laws/Integrity.lean ====
section
/-! SUPPORT. The Integrity Unit's functions, each by a lemma that says what it answers: membership in the code (R6 to R8),
the distance, the replacement of one symbol, and the two searches of the classification (R9). -/

namespace Sys2Proof.Machine

open Sys2Proof

/-! ### The check function and membership -/

theorem checkSymbolsOf_eq (d : Data) : checkSymbolsOf d = Config.code.check.val d := by
  unfold checkSymbolsOf
  split
  · next h => rw [h, Config.code.check.property.1]
  · rfl

theorem isValid_iff (w : Codeword) : isValid w = true ↔ w.check = checkSymbolsOf w.data := by
  cases w; simp [isValid, encode]

theorem isPoisonMarked_iff (w : Codeword) : isPoisonMarked w = true ↔ w.check = foldPattern (checkSymbolsOf w.data) := by
  cases w; simp [isPoisonMarked, poisonMark]

/-- The set of R8 in the terms of the Integrity Unit. -/
theorem codeMember_iff (w : Codeword) :
    CodeMember Config.code.check.val w ↔ isValid w = true ∨ isPoisonMarked w = true := by
  rw [isValid_iff, isPoisonMarked_iff, checkSymbolsOf_eq]; rfl

/-! ### The distance -/

theorem countP_triangle {α : Type} (p q r : α → Bool) (l : List α) (h : ∀ x, p x = true → q x = true ∨ r x = true) :
    l.countP p ≤ l.countP q + l.countP r := by
  induction l with
  | nil => simp
  | cons x xs ih =>
    have hx := h x
    simp only [List.countP_cons]
    cases hp : p x <;> cases hq : q x <;> cases hr : r x <;> simp_all <;> omega

theorem Codeword.dist_self (a : Codeword) : a.dist a = 0 := by simp [Codeword.dist]

theorem Codeword.dist_comm (a b : Codeword) : a.dist b = b.dist a := by
  simp only [Codeword.dist, ne_comm]

theorem Codeword.dist_triangle (a b c : Codeword) : a.dist c ≤ a.dist b + b.dist c := by
  have hd := countP_triangle (fun i : Fin 64 => decide (a.data[i] ≠ c.data[i])) (fun i => decide (a.data[i] ≠ b.data[i]))
    (fun i => decide (b.data[i] ≠ c.data[i])) (List.finRange 64) (by intro i; simp only [decide_eq_true_eq]; grind)
  have hc := countP_triangle (fun i : Fin 8 => decide (a.check[i] ≠ c.check[i])) (fun i => decide (a.check[i] ≠ b.check[i]))
    (fun i => decide (b.check[i] ≠ c.check[i])) (List.finRange 8) (by intro i; simp only [decide_eq_true_eq]; grind)
  simp only [Codeword.dist]; omega

theorem countP_finRange_le_one {n : Nat} (p : Fin n → Bool) (k : Fin n) (h : ∀ i, p i = true → i = k) :
    (List.finRange n).countP p ≤ 1 :=
  (List.countP_mono_left fun i _ hi => by simpa using h i hi).trans
    (List.nodup_iff_count_le_one.mp (List.nodup_finRange n) k)

/-- Replacing one symbol moves a codeword by at most 1. -/
theorem dist_setSymbol_le (w : Codeword) (k : Nat) (v : Byte) : w.dist (setSymbol w k v) ≤ 1 := by
  unfold setSymbol Codeword.dist
  split
  · next h =>
    have := countP_finRange_le_one (fun i : Fin 64 => decide (w.data[i] ≠ (w.data.set k v)[i])) ⟨k, h⟩ (by
      intro i hi
      by_contra hne
      have hk : k ≠ i.val := fun e => hne (Fin.ext e.symm)
      simp [hk] at hi)
    simpa using this
  · split
    · next h =>
      have := countP_finRange_le_one (fun i : Fin 8 => decide (w.check[i] ≠ (w.check.set (k - 64) v)[i])) ⟨k - 64, h⟩ (by
        intro i hi
        by_contra hne
        have hk : k - 64 ≠ i.val := fun e => hne (Fin.ext e.symm)
        simp [hk] at hi)
      simpa using this
    · simp

/-! ### The searches of the classification -/

theorem mem_symbolValues (v : Byte) : v ∈ symbolValues := by
  simp only [symbolValues, List.mem_map, List.mem_range]
  exact ⟨v.toNat, v.isLt, by simp⟩

/-- What `correction` answers: a symbol and the valid codeword with that symbol replaced by another value. -/
theorem correction_some {w v : Codeword} {k : Nat} (h : correction w = some (k, v)) :
    k < 72 ∧ ∃ b, b ≠ symbolAt w k ∧ v = setSymbol w k b ∧ isValid v = true := by
  obtain ⟨k', hk, hv⟩ := List.exists_of_findSome?_eq_some h
  obtain ⟨b, _, hb⟩ := List.exists_of_findSome?_eq_some hv
  split at hb
  · next hc =>
    simp only [Option.some.injEq, Prod.mk.injEq] at hb
    obtain ⟨rfl, rfl⟩ := hb
    exact ⟨List.mem_range.mp hk, b, hc.1, rfl, hc.2⟩
  · cases hb

/-- `correction` finds nothing exactly when no replacement of one symbol is valid. -/
theorem correction_none (w : Codeword) :
    correction w = none ↔ ∀ k < 72, ∀ b, b ≠ symbolAt w k → isValid (setSymbol w k b) = false := by
  simp only [correction, List.findSome?_eq_none_iff, List.mem_range]
  constructor
  · intro h k hk b hb
    have := h k hk b (mem_symbolValues b)
    simpa [hb] using this
  · intro h k hk b _
    by_cases hb : b ≠ symbolAt w k
    · simp [h k hk b hb]
    · simp [hb]

/-- `nearPoison` holds exactly when the codeword, or a replacement of one symbol, is poison-marked. -/
theorem nearPoison_iff (w : Codeword) :
    nearPoison w = true ↔ isPoisonMarked w = true ∨ ∃ k < 72, ∃ b, isPoisonMarked (setSymbol w k b) = true := by
  simp only [nearPoison, Bool.or_eq_true, List.any_eq_true, List.mem_range]
  constructor
  · rintro (h | ⟨k, hk, b, _, h⟩)
    · exact .inl h
    · exact .inr ⟨k, hk, b, h⟩
  · rintro (h | ⟨k, hk, b, h⟩)
    · exact .inl h
    · exact .inr ⟨k, hk, b, mem_symbolValues b, h⟩

/-! ### Symbols -/

theorem symbolList_length (w : Codeword) : (symbolList w).length = 72 := by simp [symbolList]

theorem mergeData_getElem (m : BitVec 64) (new old : Data) (i : Fin 64) :
    (mergeData m new old)[i] = if m.getLsbD i then new[i] else old[i] := by simp [mergeData]

end Sys2Proof.Machine
end

