-- ==== Sys2Proof/Laws/Memory.lean ====
section
/-! SUPPORT. What an answer or a timeout of the Memory Port comes to, which end its owner sees, and what the release of a hold,
a response and a host report come to in the states the statements speak of. -/

namespace Sys2Proof.Machine

/-! ### Answers and timeouts (R166, R167) -/

/-- A READ_DATA that an active read awaits: the tag is free, and the owner is told. -/
theorem exec_readData {s : State} {g : Fin 64} {o : Owner} {line : Nat} (w : Codeword) (h : s.Awaits g o .mrd line) :
    exec (.readData s.mem.generation g w) s = .next ((s.answered g).tellOwner o (.read w (classify w))) := by
  obtain ⟨hr, us, h⟩ := h
  simp only [exec, execReadData, h, State.unlessHeld_of_high hr]
  simp
  rfl

/-- A WRITE_ACK that an active write awaits: the tag is free, and the owner is told. -/
theorem exec_writeAck {s : State} {g : Fin 64} {o : Owner} {line : Nat} {w : Codeword} (h : s.Awaits g o (.mwr w) line) :
    exec (.writeAck s.mem.generation g) s = .next ((s.answered g).tellOwner o .ack) := by
  obtain ⟨hr, us, h⟩ := h
  simp only [exec, execWriteAck, h, State.unlessHeld_of_high hr]
  simp
  rfl

/-- A timeout of an active operation. -/
theorem exec_memoryTimeout {s : State} {g : Fin 64} {o : Owner} {line : Nat} {k : MemKind} (h : s.Awaits g o k line) :
    ∃ us, exec (.memoryTimeout g) s = .next (s.timeOut ⟨g, k, line, o, s.mem.generation, us⟩) := by
  obtain ⟨hr, us, h⟩ := h
  exact ⟨us, by simp only [exec, execMemoryTimeout, h, State.unlessHeld_of_high hr]⟩

/-- What a timeout adds after its owner has acted (R167, R169). -/
theorem State.timeOut_eq (s : State) (a : ActiveOp) :
    s.timeOut a = (s.tellOwner a.owner .timeout).timedOut a.tag a.kind a.line a.owner.name := by
  unfold State.timeOut
  generalize s.tellOwner a.owner .timeout = u
  have hq : (u.mem.quarantine ++ [a.tag]).length = 28 ↔ u.mem.quarantine.length = 27 := by simp
  have raise : ∀ (v : State) (x : Nat), v.bridge = u.bridge → v.mem.faults = x →
      v.mgmt.params = u.mgmt.params → v.mem.quarantine = u.mem.quarantine ++ [a.tag] →
      v.raiseFaults a.line =
        { v with
          bridge :=
            { u.bridge with
              fromMemory := u.bridge.fromMemory ++
                (if u.mgmt.params.dsFaultLimit ≤ x then [⟨.dsFaultLimit, some a.line⟩] else []) ++
                (if u.mem.quarantine.length = 27 then [⟨.dsStuck, none⟩] else []) } } := by
    intro v x hb hx hp hv
    unfold State.raiseFaults
    rw [hp, hx]
    by_cases h1 : u.mgmt.params.dsFaultLimit ≤ x <;> by_cases h2 : u.mem.quarantine.length = 27 <;>
      simp only [h1, h2, if_true, if_false, State.handFromMemory, State.setBridge, hv, hq, hb, List.append_nil,
        List.append_assoc, List.nil_append, List.cons_append]
    cases v; simp_all
  exact raise _ _ rfl rfl rfl rfl

/-- Outside CONTAIN each owner acts by its own rules. -/
theorem State.tellOwner_of_ne {s : State} (h : s.bridge.state ≠ .contain) (o : Owner) (e : MemEnd) :
    s.tellOwner o e =
      (match o with
        | .host t => s.hostEnd t e
        | .patrol => s.patrolEnd e
        | .engine => s.engineEnd e
        | .diag => s.diagEnd e
        | .format => s.formatEnd e) := by
  exact (if_neg h).trans (by cases o <;> rfl)

/-- The bridge in service is in neither CONTAIN nor FORMAT. -/
theorem State.inService_of {s : State} (h : s.bridge.state = .online ∨ s.bridge.state = .degraded) :
    s.bridge.state ≠ .contain ∧ s.bridge.state ≠ .format ∧ s.inService = true := by
  rcases h with h | h <;> simp [h, State.inService]

/-- Whether the Memory Port can issue depends on the bridge state and the port alone. -/
theorem State.CanIssue.of {u a : State} {t : Fin 64} (h : a.CanIssue t) (h1 : u.bridge.state = a.bridge.state)
    (h2 : u.mem = a.mem) : u.CanIssue t := by
  unfold State.CanIssue; rw [h1, h2]; exact h

/-! ### Releases (R68) -/

theorem State.NoneWaits.of_entries {s t : State} (h : s.NoneWaits) (he : ∀ e ∈ t.order.entries, e ∈ s.order.entries) :
    t.NoneWaits :=
  fun e hx => h e (he e hx)

/-- The end of an operation that is no orphan. -/
theorem State.endHostOp_of_not_orphan {s : State} {op : HostOp} (h : op.orphan = false) :
    s.endHostOp op = s.hostDone op.tag := by
  unfold State.endHostOp; rw [h]; rfl

/-- While no hold waits a host operation's release does nothing but end it. -/
theorem State.releaseHostOp_of {s : State} {op : HostOp} (h : op.orphan = false) (hn : s.NoneWaits)
    (hf : s.bridge.state ≠ .format) : s.releaseHostOp op = s.hostDone op.tag := by
  unfold State.releaseHostOp
  rw [State.endHostOp_of_not_orphan h, State.afterRelease_of_noneWaits (s := s.hostDone op.tag) (hn.of_entries ?_) hf]
  intro e he
  simp [State.hostDone, LineOrder.without] at he
  exact he.1

/-- While no hold waits a release does nothing but remove the owner's hold. -/
theorem State.release_of {s : State} {o : Owner} (hn : s.NoneWaits) (hf : s.bridge.state ≠ .format) :
    s.release o = { s with order := s.order.without o } := by
  unfold State.release
  rw [State.afterRelease_of_noneWaits (hn.removeHold o) hf]; rfl

/-- The end of a host operation, orphan or not. -/
theorem State.endHostOp_eq (s : State) (op : HostOp) : s.endHostOp op = s.opEnded op := by
  unfold State.endHostOp State.opEnded
  cases op.orphan
  · rfl
  · simp only [State.orphanFinished, if_true, List.any_eq_true]
    rfl

@[simp] theorem State.opEnded_entries (s : State) (op : HostOp) :
    (s.opEnded op).order.entries = s.order.entries.filter fun e => e.owner ≠ .host op.tag := by
  unfold State.opEnded
  cases op.orphan
  · rfl
  · rw [if_pos rfl]; dsimp only; split <;> rfl

@[simp] theorem State.opEnded_bridge (s : State) (op : HostOp) : (s.opEnded op).bridge = s.bridge := by
  unfold State.opEnded
  cases op.orphan
  · rfl
  · rw [if_pos rfl]; dsimp only; split <;> rfl

/-- While no hold waits a host operation's release, orphan or not, does nothing but end it. -/
theorem State.releaseHostOp_eq {s : State} (op : HostOp) (hn : s.NoneWaits) (hf : s.bridge.state ≠ .format) :
    s.releaseHostOp op = s.opEnded op := by
  unfold State.releaseHostOp
  rw [State.endHostOp_eq]
  refine State.afterRelease_of_noneWaits (hn.of_entries ?_) (by rw [State.opEnded_bridge]; exact hf) _
  intro e he
  rw [State.opEnded_entries] at he
  exact (List.mem_filter.mp he).1

/-- The codeword of zero data (R6). -/
theorem encode_zero : encode Data.zero = ⟨Vector.replicate 64 0, Vector.replicate 8 0⟩ := by
  unfold encode checkSymbolsOf; rw [if_pos rfl]; rfl

/-- In FORMAT the notice to the format cursor, which it acts on when the hold table is empty (R75, R133). -/
theorem State.formatNotice_eq {s : State} {t : Fin 64} (hb : s.bridge.state = .format) (ht : s.mem.NextTag t) :
    s.formatNotice = s.drained t := by
  unfold State.formatNotice State.drained
  cases hc : s.bridge.cursor with
  | none => rfl
  | some c =>
    obtain ⟨n, d⟩ := c
    cases d
    · simp
    · by_cases he : s.order.entries = []
      · simp only [hb, he, List.isEmpty_nil, Bool.and_true, decide_true, if_true]
        by_cases hq : 28 ≤ s.mem.quarantine.length
        · rw [if_pos hq, ← encode_zero]
          unfold State.issue
          rw [if_neg (by simp), if_pos (by exact hq)]
          simp only [State.setBridge, State.defer, State.setMem]
        · rw [if_neg hq, ← encode_zero]
          have hi : ∀ b : Bridge, b.state = .format → (s.setBridge b).CanIssue t := fun b h =>
            ⟨by simp [h], Nat.lt_of_not_le hq, ht⟩
          exact State.issue_of_canIssue (hi _ rfl) _
      · simp [he]

/-- In FORMAT, while no hold waits, a release removes the hold and gives the format cursor its notice. -/
theorem State.release_format {s : State} {o : Owner} {t : Fin 64} (hn : s.NoneWaits) (hb : s.bridge.state = .format)
    (ht : s.mem.NextTag t) : s.release o = State.drained { s with order := s.order.without o } t := by
  rw [show s.release o = (s.removeHold o).formatNotice by
    unfold State.release State.afterRelease
    cases s.holdOf o with
    | none => rfl
    | some e => simp only [State.settleKeys, State.settle_of_noneWaits (hn.removeHold o)]]
  exact State.formatNotice_eq hb ht

/-! ### Responses and reports (R84, R92, R93) -/

/-- A response, an orphan's or not. -/
theorem State.respond_eq (s : State) (op : HostOp) (st : RespStatus) (d : Data) :
    s.respond op st d = s.answeredTo op st d := by
  unfold State.respond State.answeredTo
  cases op.orphan
  · cases st <;> cases op.req <;> rfl
  · rfl

/-- The response of an operation that is no orphan. -/
theorem State.respond_of {s : State} {op : HostOp} (ho : op.orphan = false) (st : RespStatus) (d : Data) :
    s.respond op st d =
      (match st with
        | .corrected => (s.responded op.tag st (op.req.responseData d)).count Counters.bumpRespCorrected
        | .poisoned => (s.responded op.tag st (op.req.responseData d)).count Counters.bumpRespPoisoned
        | _ => s.responded op.tag st (op.req.responseData d)) := by
  unfold State.respond; rw [ho]; cases st <;> rfl

theorem State.respond_order (s : State) (op : HostOp) (st : RespStatus) (d : Data) :
    (s.respond op st d).order = s.order := by
  unfold State.respond State.send; cases op.orphan <;> cases st <;> rfl

theorem State.respond_bridge (s : State) (op : HostOp) (st : RespStatus) (d : Data) :
    (s.respond op st d).bridge = s.bridge := by
  unfold State.respond State.send; cases op.orphan <;> cases st <;> rfl

/-- While no hold waits a response with its release is the response, and the operation's end. -/
theorem State.respondAndRelease_of {u : State} {op : HostOp} (ho : op.orphan = false) (hn : u.NoneWaits)
    (hf : u.bridge.state ≠ .format) (st : RespStatus) (d : Data) :
    u.respondAndRelease op st d = (u.respond op st d).hostDone op.tag := by
  unfold State.respondAndRelease
  refine State.releaseHostOp_of ho (hn.of_entries ?_) ?_
  · intro e he; rw [State.respond_order] at he; exact he
  · rw [State.respond_bridge]; exact hf

theorem State.hostReport_eq (s : State) (k : ReportKind) (p : Nat) : s.hostReport k p = s.hostReported k p := by
  unfold State.hostReport State.hostReported State.isCopySource
  simp only [List.any_eq_true, decide_eq_true_eq]; rfl

theorem State.hostTransient_eq (s : State) (p r : Nat) : s.hostTransient p r = s.hostTransientRecorded p r := by
  unfold State.hostTransient State.hostTransientRecorded; rw [State.hostReport_eq]

end Sys2Proof.Machine
end

