-- ==== Sys2Proof/Tests/Slice0.lean ====
section
/-! SUPPORT. Tests: ill-formed terms, one step of a command each (expected values from the worked examples and tables of the
spec named in the comment), and for every obligation with hypotheses a state that meets them. -/

namespace Sys2Proof.Tests

open Sys2Proof Sys2Proof.Machine

/-! ### Helpers -/

/-- The next state of a command; the model has no other outcome. -/
def after (c : Instr) (s : State) : State :=
  match exec c s with
  | .next t => t
  | _ => s

/-- The reply bytes of a command. -/
def replyOf (c : Instr) (s : State) : List Byte := (after c s).mgmt.reply.bytes

/-- Reset, in a bridge state. -/
def inState (b : BridgeState) : State := { State.reset with bridge := { State.reset.bridge with state := b } }

/-- Reset, ONLINE. -/
def online : State := inState .online

/-- ONLINE, with one memory operation in flight under tag 0. -/
def flying (o : Owner) (k : MemKind) (line : Nat) : State :=
  { online with mem := { online.mem with active := [⟨0, k, line, o, 0, 20⟩] } }

/-- ONLINE, with an active hold of an owner on a key. -/
def holding (s : State) (k : Key) (o : Owner) : State := { s with order := s.order.append k o true }

/-- A host operation under tag 3 on host line 5000, translated to the same physical line. -/
def hostOp (req : HostReq) (phase : HostPhase) (attempts : Nat) : HostOp :=
  ⟨3, req, 5000, some 5000, phase, attempts, false, false⟩

/-- ONLINE, with that operation holding its line and awaiting an answer under memory tag 0. -/
def serving (op : HostOp) (k : MemKind) : State :=
  holding { flying (.host op.tag) k 5000 with ops := [op], link := ⟨false, [op.tag]⟩ } (.host 5000) (.host op.tag)

/-- The zero codeword, a valid one (R6). -/
def zeros : Codeword := ⟨Vector.replicate 64 0, Vector.replicate 8 0⟩

/-- The poison-marked codeword of zero data (R7). -/
def poisoned : Codeword := ⟨Vector.replicate 64 0, #v[0xE1, 0x2D, 0xB4, 0x78, 0x1E, 0xD2, 0x4B, 0x87]⟩

/-- The zero codeword with symbol 64 altered. -/
def oneAltered : Codeword := ⟨Vector.replicate 64 0, #v[1, 0, 0, 0, 0, 0, 0, 0]⟩

/-- The zero codeword with symbols 64 and 65 altered. -/
def twoAltered : Codeword := ⟨Vector.replicate 64 0, #v[1, 1, 0, 0, 0, 0, 0, 0]⟩

/-- The copy job of worked example 3.13: region 17 to spare 0. -/
def job (cursor : Nat) (phase : Phase) : CopyJob := ⟨17, .retire, 0, 17, cursor, phase, 1, 0, false⟩

/-- Its map entry. -/
def copyEntry (cursor : Nat) : MapEntry := ⟨17, 0, .copying .retire 17 cursor, 0, .health, 0⟩

/-- ONLINE, with the job's step at a cursor awaiting an answer under memory tag 0. -/
def copying (cursor : Nat) (k : MemKind) (line : Nat) : State :=
  holding
    { flying .engine k line with
      map := [copyEntry cursor]
      spares := .inUse :: List.replicate 63 .free
      engine := .copying (job cursor (if k = .mrd then .read else .write)) }
    (.host (1088 + cursor)) .engine

/-- The suspect entry with a region, count, last-touched pass and status. -/
def suspect (q n : Nat) (touched : BitVec 16) (st : SuspectStatus) : Suspect := ⟨q, n, none, false, false, touched, st⟩

/-- ONLINE with the patrol running at a position, its interval timer running. -/
def patrolling (position : Nat) : State :=
  { online with patrol := { online.patrol with running := true, position, timer := .running 100 } }

/-- ONLINE with a visit of line 5000 awaiting an answer under memory tag 0. -/
def visiting (phase : Phase) (attempts position : Nat) (k : MemKind) : State :=
  holding
    { flying .patrol k 5000 with
      patrol := { online.patrol with
        running := true, position, timer := .running 100, visit := some ⟨5000, some 5000, phase, attempts, .none⟩ } }
    (.host 5000) .patrol

/-! ### Well-formedness -/

theorem test_malformed_rd_ill_formed : (Instr.malformed 0x01).wellFormed = false := by decide
theorem test_malformed_wr_ill_formed : (Instr.malformed 0x02).wellFormed = false := by decide
theorem test_malformed_wrp_ill_formed : (Instr.malformed 0x03).wellFormed = false := by decide
theorem test_rejected_no_byte_ill_formed : (Instr.frameRejected []).wellFormed = false := by decide
/-- 12.7's frame runs MAP_FIND. -/
theorem test_rejected_good_frame_ill_formed :
    (Instr.frameRejected [0x22, 0x04, 0x11, 0x00, 0x00, 0x00, 0xC9]).wellFormed = false := by decide
theorem test_malformed_seven_well_formed : (Instr.malformed 0x07).wellFormed = true := by decide
theorem test_rejected_bad_check_well_formed :
    (Instr.frameRejected [0x22, 0x04, 0x11, 0x00, 0x00, 0x00, 0xC8]).wellFormed = true := by decide

/-! ### Frames, messages and the step -/

/-- 12.7. -/
theorem test_map_find_frame :
    decodeFrame [0x22, 0x04, 0x11, 0x00, 0x00, 0x00, 0xC9] = some (.mapFind 17) := by decide
/-- R174: the byte sum is checked. -/
theorem test_bad_check_frame :
    decodeFrame [0x22, 0x04, 0x11, 0x00, 0x00, 0x00, 0xC8] =
      some (.frameRejected [0x22, 0x04, 0x11, 0x00, 0x00, 0x00, 0xC8]) := by decide
/-- R173: the frame of 12.7 at the part's address, 2Ch, ended by a repeated start, with a read of three bytes after it; the
command joins the queue, the read is answered from the reply buffer. -/
theorem test_bus_frame :
    let signals : List BusSignal :=
      .start :: ([0x58, 0x22, 0x04, 0x11, 0x00, 0x00, 0x00, 0xC9] : List Byte).map .byte ++
        .start :: ([0x59, 0, 0, 0] : List Byte).map .byte ++ [.stop]
    ((online.takeSignals signals).pending, (transactions signals).map online.busAnswer) =
      ([.mapFind 17], [.command (.mapFind 17), .returned [0x0A, 0x00, 0xF6]]) := by decide
/-- R173: a write to another address is not acknowledged; a bus error ends a frame, which is then too short. -/
theorem test_bus_address_and_error :
    (transactions ([.start, .byte 0x5A, .byte 0x02, .byte 0x00, .byte 0xFE, .stop])).map online.busAnswer =
        [.notAcknowledged] ∧
      (online.takeSignals [.start, .byte 0x58, .byte 0x02, .byte 0x00, .partByte, .stop]).pending =
        [.frameRejected [0x02, 0x00]] := by decide
/-- R187: RD of tag 5, line 010203h. -/
theorem test_rd_message : decodeHostMessage [0x01, 0x05, 0x03, 0x02, 0x01, 0x00] = some (.rd 5 0x00010203) := by decide
/-- The table gives no row any bits. -/
theorem test_table_word : decodeTableWord 8 0x22 = none := by decide
theorem test_step_idles_on_empty_queue : step online = .next online := rfl
theorem test_step_takes_front :
    step { online with pending := [.status, .identify] } = exec .status { online with pending := [.identify] } := rfl
/-- R174: reply BAD_FRAME 0Ch 00h F4h. -/
theorem test_frame_rejected :
    replyOf (.frameRejected [0x22, 0x04, 0x11, 0x00, 0x00, 0x00, 0xC8]) online = [0x0C, 0x00, 0xF4] := by decide
/-- R132: a START of mode 02h outside STANDBY meets the state check first. -/
theorem test_start_other_mode :
    ((after (.frameRejected [0x10, 0x01, 0x02, 0xED]) online).mgmt.reply,
      (after (.frameRejected [0x10, 0x01, 0x02, 0xED]) State.reset).mgmt.reply) =
      (⟨.badState, []⟩, ⟨.badParam, []⟩) := by decide

/-! ### The code (chapter 1) -/

/-- 1.10, first row. -/
theorem test_zero_line_is_clean : classify zeros = .clean Data.zero := by decide
/-- 1.9, read 5. -/
theorem test_poison_mark_is_poison : classify poisoned = .poison := by decide +kernel
/-- R9: one altered symbol; the law of the code suffices, whatever the check function. -/
theorem test_one_altered_is_corrected : ∃ k v, classify oneAltered = .corrected k v := by
  have hv : isValid oneAltered = false := by decide
  have hp : isPoisonMarked oneAltered = false := by decide
  cases h : correction oneAltered with
  | none =>
    have := (correction_none _).mp h 64 (by decide) 0 (by decide)
    exact absurd this (by decide)
  | some x => exact ⟨x.1, x.2, by simp only [classify, hv, hp, h]; rfl⟩
/-- R9: two altered symbols; a member of the code within distance 1 would be within 3 of the zero codeword. -/
theorem test_two_altered_is_uncorrectable : classify twoAltered = .uncorrectable := by
  have hv : isValid twoAltered = false := by decide
  have hp : isPoisonMarked twoAltered = false := by decide
  have far : ∀ k b, ¬ CodeMember Config.code.check.val (setSymbol twoAltered k b) := by
    intro k b hm
    have hz : CodeMember Config.code.check.val zeros := .inl Config.code.check.property.1.symm
    have h1 : twoAltered.dist (setSymbol twoAltered k b) ≤ 1 := dist_setSymbol_le ..
    have h2 : zeros.dist twoAltered = 2 := by decide
    have h3 := Codeword.dist_triangle zeros twoAltered (setSymbol twoAltered k b)
    by_cases he : zeros = setSymbol twoAltered k b
    · rw [← he, Codeword.dist_comm] at h1; omega
    · have := Config.code.check.property.2 _ _ hz hm he; omega
  have hc : correction twoAltered = none := (correction_none _).mpr fun k _ b _ => by
    cases h : isValid (setSymbol twoAltered k b) with
    | false => rfl
    | true => exact absurd ((codeMember_iff _).mpr (.inl h)) (far k b)
  have hn : nearPoison twoAltered = false := by
    cases h : nearPoison twoAltered with
    | false => rfl
    | true =>
      rcases (nearPoison_iff _).mp h with h | ⟨k, _, b, h⟩
      · rw [hp] at h; cases h
      · exact absurd ((codeMember_iff _).mpr (.inr h)) (far k b)
  simp only [classify, hv, hp, hc, hn]; rfl

/-! ### One step of each command -/

/-- R173: straps ADDR1 high, ADDR0 low. -/
theorem test_hard_reset_address : (after (.hardReset .rise ⟨true, false⟩) online).mgmt.address.toNat = 0x2E := by decide
/-- R185: at the fall of RESET_N ALERT_N is released; while it is low a request is not taken. -/
theorem test_hard_reset_fall :
    let s := after (.hardReset .fall ⟨false, false⟩) { online with ev := { online.ev with alertLow := true } }
    s.ev.alertLow = false ∧ exec (.rd 1 775) s = .next s := ⟨rfl, rfl⟩
/-- R185. -/
theorem test_link_reset_short_pulse : exec (.linkReset 9) online = .next online := rfl
/-- 10.7, row 1. -/
theorem test_link_reset_orphans :
    let t := after (.linkReset 100) (serving (hostOp .rd .read 1) .mrd)
    (t.link, t.ops.map (·.orphan), t.order.entries.map (·.orphan)) = (⟨true, []⟩, [true], [true]) := by decide
/-- 2.8: host line 775 is served by physical line 16,773,127. -/
theorem test_rd_translates :
    (after (.rd 1 775) { online with map := [⟨12, 0, .live, 0, .loaded, 0⟩] }).memOut = [⟨0, 0, 16773127, .mrd⟩] := by
  decide
/-- 10.6, row 3. -/
theorem test_wr_out_of_range :
    (after (.wr 6 16773120 Data.zero) online).hostOut = [⟨6, .range, none⟩] := by decide
/-- R89: a WRP that selects no byte is answered OK with no memory operation. -/
theorem test_wrp_no_byte :
    let t := after (.wrp 6 300 Data.zero 0) online
    (t.hostOut, t.memOut, t.link.busy) = ([⟨6, .ok, none⟩], [], []) := by decide
/-- 10.6, row 2. -/
theorem test_malformed :
    let t := after (.malformed 7) online
    (t.ev.queue.map (·.event), t.ev.counters.discarded) = ([.malformed 7], 1) := by decide
/-- 5.9, row 2. -/
theorem test_read_data_poison :
    (after (.readData 0 0 poisoned) (serving (hostOp .rd .read 1) .mrd)).hostOut = [⟨3, .poisoned, some Data.zero⟩] := by
  decide +kernel
/-- 11.8, row 4: a late answer frees the tag and leaves the fault count. -/
theorem test_read_data_late :
    let t := after (.readData 3 0 zeros) { online with mem := ⟨[], [0], 3, 1, []⟩ }
    (t.mem, t.ev.counters.lateAnswers) = (⟨[], [], 3, 1, []⟩, 1) := by decide
/-- 3.13, row 6: the cursor advances and the step of line 4 reads source line 1092. -/
theorem test_write_ack_advances :
    let t := after (.writeAck 0 0) (copying 3 (.mwr zeros) 16773123)
    (t.map, t.memOut) = ([copyEntry 4], [⟨0, 0, 1092, .mrd⟩]) := by decide
/-- 3.13, completion. -/
theorem test_write_ack_completes :
    let t := after (.writeAck 0 0) (copying 63 (.mwr zeros) 16773183)
    (t.map, t.engine, t.inbox) = ([⟨17, 0, .live, 0, .health, 0⟩], .idle, [.removal 17]) := by decide
/-- 11.8, row 7. -/
theorem test_memory_timeout_limit :
    let s := flying (.host 3) (.mwr zeros) 900
    let t := after (.memoryTimeout 0) { s with mem := { s.mem with quarantine := [1, 2], faults := 3 } }
    (t.mem.quarantine, t.mem.faults, t.bridge.fromMemory) = ([1, 2, 0], 4, [⟨.dsFaultLimit, some 900⟩]) := by decide
/-- 7.7, row 1: position 6,141 of the small geometry reads physical line 6,269. -/
theorem test_interval_timer :
    (after .intervalTimerRunOut
      { online with
        mgmt := { online.mgmt with params := { online.mgmt.params with memRegions := 100, spareCount := 4 } }
        map := [⟨95, 1, .live, 0, .loaded, 0⟩]
        patrol := { online.patrol with running := true, position := 6141, timer := .running 100 } }).memOut =
      [⟨0, 0, 6269, .mrd⟩] := by decide
/-- 6.8, a report for a known region. -/
theorem test_report_taken :
    (after .reportTaken
      { online with
        patrol := { online.patrol with pass := 40 }
        suspects := [⟨640, 1, some 22, false, false, 37, .watch⟩]
        inbox := [.report ⟨.corrected 31, .host, 40969⟩] }).suspects =
      [⟨640, 2, some 31, true, false, 40, .watch⟩] := by decide
/-- R110: a report taken before the notice of pass 40 touches its entry in pass 40, which the notice then does not halve. R99:
with nine entries REQUESTED and a removal notice waiting, the report waits too. -/
theorem test_report_and_notices :
    let s : State :=
      { online with
        patrol := { online.patrol with pass := 41 }
        suspects := [suspect 640 1 37 .watch]
        inbox := [.passEnd 40, .report ⟨.transient, .host, 40969⟩] }
    let u : State :=
      { online with
        suspects := (List.range 9).map fun i => suspect i 8 0 .requested
        inbox := [.report ⟨.uncorrectable, .host, 40969⟩, .removal 3] }
    (after .passEndNotice (after .reportTaken s)).suspects = [suspect 640 2 40 .watch] ∧
      (after .reportTaken u).inbox = u.inbox ∧
      (after .reportTaken (after .removalNotice u)).suspects.countP (fun e => e.status = .requested) = 9 := by decide
/-- 6.8, pass 40 ends. -/
theorem test_pass_end_notice :
    (after .passEndNotice
      { online with
        suspects := [suspect 1200 2 38 .watch, suspect 500 1 39 .watch, ⟨4100, 0, none, false, true, 35, .requested⟩]
        inbox := [.passEnd 40] }).suspects =
      [suspect 1200 1 38 .watch, ⟨4100, 0, none, false, true, 35, .requested⟩] := by decide
/-- R108. -/
theorem test_stranded_notice :
    (after .strandedNotice { online with suspects := [suspect 7 8 0 .requested], inbox := [.stranded 7] }).suspects =
      [suspect 7 8 0 .stranded] := by decide
/-- R109. -/
theorem test_removal_notice :
    (after .removalNotice { online with suspects := [suspect 7 8 0 .requested], inbox := [.removal 7] }).suspects =
      [] := by decide
/-- 8.8, row 3. -/
theorem test_containment_request :
    let s := inState .degraded
    let t := after (.containmentRequest .memoryPort)
      { s with
        bridge := { s.bridge with history := [.online, .standby], fromMemory := [⟨.dsFaultLimit, some 19200⟩] }
        patrol := { s.patrol with pass := 12 } }
    (t.bridge.state, t.bridge.record) =
      (.contain, some ⟨true, .dsFaultLimit, some 19200, [.degraded, .online, .standby], 12, 0, none⟩) := by decide
/-- 3.13, job start. -/
theorem test_job_start :
    let t := after .jobStart { online with queue := [⟨17, .retire, .health⟩] }
    (t.map, t.memOut, t.ev.queue.map (·.event)) =
      ([copyEntry 0], [⟨0, 0, 1088, .mrd⟩], [.jobStarted 17 .retire 0]) := by decide
/-- R47, R135. -/
theorem test_job_start_no_spare :
    let t := after .jobStart { online with queue := [⟨300, .retire, .health⟩], spares := [] }
    (t.bridge.state, t.inbox) = (.degraded, [.stranded 300]) := by decide
/-- R188. -/
theorem test_identify :
    (after .identify online).mgmt.reply.result = [0x5A, 0x40, 0x22, 0x01, 0x00, 0x01, 0x08, 0x40] := by decide
/-- R188, after hard reset: STANDBY, 64 FREE spares. -/
theorem test_status :
    (after .status State.reset).mgmt.reply.result = [0, 0, 0, 0, 0, 0, 0, 64, 0, 0, 0, 0, 0, 0, 0, 0] := by decide
/-- R177: MEM_REGIONS is 262,144 = 040000h by default. -/
theorem test_config_get : (after (.configGet 1) online).mgmt.reply.result = [1, 0x00, 0x00, 0x04, 0x00] := by decide
/-- The small geometry of chapter 1. -/
theorem test_config_set_geometry : (after (.configSet 1 100) State.reset).V = 36 := by decide
theorem test_config_set_range :
    (after (.configSet 1 64) State.reset).mgmt.reply.status = .range := by decide
/-- 8.8, row 1. -/
theorem test_start_keep :
    let t := after .startKeep State.reset
    (t.bridge.state, t.bridge.history, t.ev.queue.map (·.event)) =
      (.online, [.standby], [.stateChanged .standby .online]) := by decide
/-- R133: the zero codeword goes to line 0 first. -/
theorem test_start_format :
    (after .startFormat State.reset).memOut = [⟨0, 0, 0, .mwr zeros⟩] := by decide
/-- 8.8, row 7. -/
theorem test_soft_reset :
    let s := inState .contain
    (after .softReset { s with bridge := { s.bridge with history := [.degraded, .online, .standby] } }).bridge.history =
      [.contain, .degraded, .online, .standby] := by decide
/-- 8.8, row 5. -/
theorem test_force_contain : (after .forceContain (inState .contain)).mgmt.reply = ⟨.already, []⟩ := by decide
/-- R190: no record, no history. -/
theorem test_contain_read :
    (after (.containRead 0) State.reset).mgmt.reply.result = 0x00 :: List.replicate 17 0xFF := by decide
/-- 2.8, second command. -/
theorem test_map_load :
    let t := after (.mapLoad 12 0) (after (.mapLoad 900 3) State.reset)
    (t.map.map (·.region), t.mgmt.reply) = ([12, 900], ⟨.done, [0, 2, 0]⟩) := by decide
/-- 2.8, third command. -/
theorem test_map_load_duplicate :
    (after (.mapLoad 900 5) (after (.mapLoad 900 3) State.reset)).mgmt.reply = ⟨.duplicate, []⟩ := by decide
/-- 2.8: NOT_FOUND with the entry count. -/
theorem test_map_read :
    (after (.mapRead 2) { online with map := [copyEntry 0, copyEntry 0] }).mgmt.reply = ⟨.notFound, [2, 0]⟩ := by decide
/-- 12.7, the reply frame. -/
theorem test_map_find :
    replyOf (.mapFind 17) { online with map := [⟨17, 0, .live, 0, .health, 0⟩] } =
      [0x00, 0x12, 0x01, 0x00, 0x00, 0x11, 0, 0, 0, 0, 0, 0xFF, 0xFF, 0xFF, 0xFF, 0xFF, 0xFF, 0, 0, 0, 0xE2] := by decide
/-- R35: spare 0 is named by region 17. -/
theorem test_spare_read :
    (after (.spareRead 0) (copying 3 .mrd 1091)).mgmt.reply.result = [2, 17, 0, 0, 0, 0] := by decide
/-- R36. -/
theorem test_spare_mark_bad : (after (.spareMarkBad 5) State.reset).spares[5]? = some .bad := by decide
/-- R56: the pattern of line 0 goes to line 0 of spare 0. -/
theorem test_spare_test :
    (after (.spareTest 0) online).memOut = [⟨0, 0, 16773120, .mwr zeros⟩] := by decide
/-- R40. -/
theorem test_retire :
    let t := after (.retire 30) online
    (t.queue, t.mgmt.reply) = ([⟨30, .retire, .management⟩], ⟨.done, [1]⟩) := by decide
/-- R41. -/
theorem test_queue_read :
    (after .queueRead { online with queue := [⟨30, .retire, .management⟩] }).mgmt.reply.result =
      [1, 30, 0, 0, 0, 0, 1] := by decide
/-- R52: the suspended step of line 3 begins again. -/
theorem test_resume_copy :
    (after .resumeCopy { online with map := [copyEntry 3], engine := .suspended (job 3 .none) }).memOut =
      [⟨0, 0, 1091, .mrd⟩] := by decide
/-- R59: the engine after reset. -/
theorem test_engine_status :
    (after .engineStatus State.reset).mgmt.reply.result = 0 :: List.replicate 18 0xFF ++ [0, 0xFF, 0xFF] := by decide
/-- 6.8, SUSPECT_READ past the end. -/
theorem test_suspect_read :
    (after (.suspectRead 31) { online with suspects := List.replicate 31 (suspect 1 1 0 .watch) }).mgmt.reply =
      ⟨.notFound, [31]⟩ := by decide
/-- R112. -/
theorem test_suspect_clear_requested :
    (after (.suspectClear 0 7) { online with suspects := [suspect 7 8 0 .requested] }).mgmt.reply = ⟨.badState, []⟩ := by
  decide
/-- R116. -/
theorem test_patrol_start : (after .patrolStart online).patrol.timer = .running 100 := by decide
/-- R117. -/
theorem test_patrol_stop : (after .patrolStop (after .patrolStart online)).patrol.timer = .stopped := by decide
/-- R118: running, position 0, pass 0, counts 0, no visit. -/
theorem test_patrol_status :
    (after .patrolStatus (after .patrolStart online)).mgmt.reply.result = 1 :: List.replicate 31 0 := by decide
/-- R190. -/
theorem test_summary_read : (after .summaryRead online).mgmt.reply.result = List.replicate 28 0 := by decide
/-- R127. -/
theorem test_summary_clear :
    (after .summaryClear { online with patrol := { online.patrol with missed := 9 } }).mgmt.reply = ⟨.done, [9]⟩ := by
  decide
/-- R148. -/
theorem test_event_peek : (after .eventPeek online).mgmt.reply = ⟨.empty, [0]⟩ := by decide
/-- 9.8, the first pop: LOST takes the freed slot under the next sequence number. -/
theorem test_event_pop :
    let r (q : BitVec 16) : EventRecord := ⟨q, 3, .formatDone⟩
    let t := after .eventPop
      { online with patrol := { online.patrol with pass := 3 }, ev := ⟨[r 500, r 501], 564, 16, true, Counters.zero⟩ }
    (t.ev.queue, t.ev.nextSeq, t.ev.lost) = ([r 501, ⟨564, 3, .lost 16⟩], 565, 0) := by decide
/-- R152. -/
theorem test_counters_read : (after .countersRead online).mgmt.reply.result = List.replicate 48 0 := by decide
theorem test_counters_clear :
    (after .countersClear (after (.malformed 7) online)).ev.counters = Counters.zero := by decide
/-- 4.7: PHYS key, MRD of the line named. -/
theorem test_diag_fetch :
    let t := after (.diagFetch 16773120) online
    (t.order.entries.map (·.key), t.memOut) = ([.phys 16773120], [⟨0, 0, 16773120, .mrd⟩]) := by decide
/-- R180. -/
theorem test_diag_swap :
    (after .diagSwap { online with mgmt := { online.mgmt with fill := ⟨poisoned, 9, .poison, true⟩ } }).mgmt.view.line =
      9 := by decide
/-- R180: symbols 64..67 of a poison-marked line. -/
theorem test_diag_read :
    (after (.diagRead 64 4) { online with mgmt := { online.mgmt with view := ⟨poisoned, 9, .poison, true⟩ } }).mgmt.reply =
      ⟨.done, [9, 0, 0, 0, 2, 0xE1, 0x2D, 0xB4, 0x78]⟩ := by decide
/-- R183: the poison mark of VIEW's data goes to the line named. -/
theorem test_diag_store :
    (after (.diagStore 9 1)
      { State.reset with mgmt := { State.reset.mgmt with view := ⟨zeros, 9, .clean, true⟩ } }).memOut =
      [⟨0, 0, 9, .mwr poisoned⟩] := by decide +kernel

/-! ### Witnesses: states and operands that meet the hypotheses of the obligations -/

theorem witness_StepRunsFrontCommand :
    ({ online with pending := [.status, .identify] } : State).pending = .status :: [.identify] := rfl

theorem witness_OnlyTheirCommandsChange :
    exec .softReset online = .next (after .softReset online) ∧ (∀ edge straps, Instr.softReset ≠ .hardReset edge straps) ∧
      (∀ straps, Instr.softReset ≠ .hardReset .rise straps) ∧
      (∀ i v, Instr.softReset ≠ .configSet i v) ∧ (∀ f, Instr.intervalTimerRunOut ≠ .frameRejected f) ∧
      frameParts .intervalTimerRunOut = none ∧ Instr.softReset ≠ .diagSwap ∧ Instr.diagSwap ≠ .softReset :=
  ⟨rfl, by simp, by simp, by simp, by simp, rfl, by simp, by simp⟩

/-- A bus error; RESET_N low; another address. -/
theorem witness_FrameRoundTrip :
    ((frameParts (.mapFind 17)).isSome = true ∧ (frameParts (.diagStore 0xFFFFFFFF 0xFF)).isSome = true) ∧
      (([BusSignal.partByte] : List BusSignal) = [] ∨ ([BusSignal.partByte] : List BusSignal) = [.partByte]) ∧
      (after (.hardReset .fall ⟨false, false⟩) online).resetLow = true ∧ (0x2D : BitVec 7) ≠ online.mgmt.address ∧
      online.resetLow = false := by decide

/-- The clauses: a wrong length, a length above 20, an unknown code, a wrong parameter count, a START of mode 02h. -/
theorem witness_RejectedFrameReplies :
    online.resetLow = false ∧ ([0x11] : List Byte).length ≠ (4 : Byte).toNat + 1 ∧ 20 < (21 : Byte).toNat ∧
      (([0xFF, 0x00, 0x01] : List Byte).foldr (· + ·) 0 = 0 ∧ paramBytes 0xFF = none) ∧
      (([0x22, 0x00, 0xDE] : List Byte).foldr (· + ·) 0 = 0 ∧ paramBytes 0x22 = some 4 ∧ 4 ≠ (0 : Byte).toNat) ∧
      (([0x10, 0x01, 0x02, 0xED] : List Byte).foldr (· + ·) 0 = 0 ∧
        ([0x02, 0xED] : List Byte).length = (1 : Byte).toNat + 1 ∧ (0x02 : Byte) ≠ 0x00 ∧ (0x02 : Byte) ≠ 0x01) ∧
      (([0x10, 0x01, 0xFF, 0xF0] : List Byte).foldr (· + ·) 0 = 0) := by decide

theorem witness_CodewordGuarantee :
    (encode Data.zero).dist zeros = 0 ∧ (encode Data.zero).dist oneAltered = 1 ∧ (encode Data.zero).dist twoAltered = 2 ∧
      (poisonMark Data.zero).dist poisoned = 0 ∧
      (poisonMark Data.zero).dist ⟨Data.zero, poisoned.check.set 7 0⟩ = 1 ∧
      (poisonMark Data.zero).dist ⟨Data.zero, (poisoned.check.set 7 0).set 6 0⟩ = 2 := by decide +kernel

theorem witness_CodeDistance :
    zeros = encode Data.zero ∧ poisoned = poisonMark Data.zero ∧ zeros ≠ poisoned ∧ oneAltered.dist zeros ≤ 1 ∧
      twoAltered.dist zeros = 2 ∧ encode Data.zero = encode Data.zero := by decide +kernel

/-- A map with a LIVE entry and a COPYING RETIRE entry. -/
def twoEntries : List MapEntry := [⟨5, 2, .live, 0, .health, 0⟩, copyEntry 3]

/-- The map of 2.7 with the REPLACE job at a cursor. -/
def replacing (cursor : Nat) : List MapEntry :=
  [⟨5, 7, .copying .replace 262082 cursor, 0, .health, 0⟩, ⟨911, 0, .live, 0, .loaded, 0⟩]

theorem mapLaw_twoEntries : MapLaw 262080 64 twoEntries := by
  refine ⟨by decide, ?_, by decide, by decide⟩
  intro e he
  simp only [twoEntries, copyEntry, List.mem_cons, List.not_mem_nil, or_false] at he
  rcases he with rfl | rfl <;> simp [MapEntry.law]

theorem mapLaw_replacing (n : Nat) (hn : n ≤ 63) : MapLaw 262080 64 (replacing n) := by
  refine ⟨by simp [replacing], ?_, by show List.Nodup [7, 0, 2]; decide, by
    simp [replacing, List.countP_cons, MapEntry.isCopying]⟩
  intro e he
  simp only [replacing, List.mem_cons, List.not_mem_nil, or_false] at he
  rcases he with rfl | rfl <;> simp [MapEntry.law, hn]

/-- Host line 1091 of the region under copy, below the cursor and at it; the first and the last physical line. -/
theorem witness_ServedByInvertsTranslation :
    MapLaw 262080 64 twoEntries ∧ 1091 < 262080 * 64 ∧ translate 262080 twoEntries 1090 = 16773122 ∧
      translate 262080 twoEntries 1091 = 1091 ∧ (0 < 262080 * 64) ∧ 16777215 < (262080 + 64) * 64 :=
  ⟨mapLaw_twoEntries, by decide⟩

theorem witness_MapChangesKeepTranslation :
    MapLaw 262080 64 (replacing 62) ∧ findEntry (replacing 62) 17 = none ∧
      (⟨911, 0, .live, 0, .loaded, 0⟩ ∈ replacing 62) ∧
      (⟨5, 7, .copying .replace 262082 62, 0, .health, 0⟩ ∈ replacing 62 ∧ 62 < 63) ∧
      MapLaw 262080 64 (replacing 63) ∧ (⟨5, 7, .copying .replace 262082 63, 0, .health, 0⟩ ∈ replacing 63) ∧
      320 ≠ lineOf 5 63 ∧ 383 = lineOf 5 63 :=
  ⟨mapLaw_replacing 62 (by decide), by decide, by decide, by decide, mapLaw_replacing 63 (by decide), by decide,
    by decide, by decide⟩

theorem witness_MapEntriesStay :
    exec (.writeAck 0 0) (copying 63 (.mwr zeros) 16773183) = .next (after (.writeAck 0 0) (copying 63 (.mwr zeros) 16773183)) ∧
      (∀ straps, Instr.writeAck 0 0 ≠ .hardReset .rise straps) ∧
      findEntry (copying 63 (.mwr zeros) 16773183).map 17 = some (copyEntry 63) :=
  ⟨rfl, by simp, by decide⟩

theorem witness_MapLoadInserts :
    let s : State := { State.reset with map := twoEntries }
    s.resetLow = false ∧ s.map.Pairwise (fun a b => a.region < b.region) ∧ s.spares[63]? = some .free ∧
      s.bridge.state = .standby ∧ 17 < s.V := by decide

/-- A COPYING REPLACE entry names both its spare 7 and its old spare 2. -/
theorem witness_RepairReadsReply :
    online.resetLow = false ∧
      twoEntries = [⟨5, 2, .live, 0, .health, 0⟩] ++ copyEntry 3 :: [] ∧ (copyEntry 3).region = (17 : BitVec 32).toNat ∧
      (∀ x ∈ ([⟨5, 2, .live, 0, .health, 0⟩] : List MapEntry), x.region ≠ (17 : BitVec 32).toNat) ∧
      (∀ e ∈ twoEntries, e.region ≠ (18 : BitVec 32).toNat) ∧ online.S ≤ (64 : Byte).toNat ∧
      ((63 : Byte).toNat < online.S ∧ online.spares[63]? = some .free ∧ SpareState.free ≠ .inUse) ∧
      (let s : State := { online with map := replacing 3, spares := List.replicate 64 .inUse }
       s.resetLow = false ∧ MapLaw s.V s.S s.map ∧ s.spares[(7 : Byte).toNat]? = some .inUse ∧
         (⟨5, 7, .copying .replace 262082 3, 0, .health, 0⟩ ∈ s.map) ∧
         MapEntry.oldSpare? s.V ⟨5, 7, .copying .replace 262082 3, 0, .health, 0⟩ = some (2 : Byte).toNat) :=
  ⟨rfl, rfl, rfl, by decide, by decide, by decide, by decide, rfl, mapLaw_replacing 3 (by decide), by decide, by decide,
    by decide⟩

theorem canIssue_zero (s : State) (h1 : s.bridge.state ≠ .contain) (h2 : s.mem.quarantine.length < 28)
    (h3 : s.mem.tagFree 0 = true) : s.CanIssue 0 :=
  ⟨h1, h2, h3, fun u hu => absurd hu (by simp)⟩

theorem witness_SpareMarkAndTest :
    online.resetLow = false ∧ (inState .format).bridge.state = .format ∧ (copying 3 .mrd 1091).engine ≠ .idle ∧
      (online.engine = .idle ∧ online.S ≤ (64 : Byte).toNat ∧ (63 : Byte).toNat < online.S ∧
        online.spares[(63 : Byte).toNat]? = some .free ∧ (∀ e ∈ online.map, e.isCopying = false) ∧
        online.bridge.state ≠ .format ∧ online.bridge.state ≠ .contain) ∧
      online.KeyFree (.phys ((online.V + 63) * 64)) ∧ online.CanIssue 0 ∧
      (∃ e ∈ ({ online with map := [copyEntry 3] } : State).map, e.isCopying = true) :=
  ⟨rfl, by decide, by decide, by decide, by unfold State.KeyFree; decide, canIssue_zero _ (by decide) (by decide) (by decide),
    by decide⟩

/-- A bridge state with the test of spare 5 at a line, awaiting an answer under memory tag 0 after some timeouts. -/
def testing (b : BridgeState) (line timeouts : Nat) (k : MemKind) : State :=
  holding
    { flying .engine k (16773440 + line) with
      bridge := { online.bridge with state := b, cursor := if b = .format then some ⟨0, true⟩ else none }
      spares := online.spares.set 5 .testing
      engine := .testing ⟨5, line, if k = .mrd then .read else .write, timeouts, .bad⟩ }
    (.phys (16773440 + line)) .engine

/-- R9: what the part writes for a line reads CLEAN with its data. -/
theorem classify_written (d : Data) : classify (encode d) = .clean d := by
  unfold classify
  rw [if_pos ((isValid_iff _).mpr rfl)]; rfl

/-- The last line but one goes on, the last line ends the test; the second timeout of a line repeats it, the third ends the
test. -/
theorem witness_SpareMarkAndTest_flow :
    ((testing .online 63 0 (.mwr zeros)).engine = .testing ⟨5, 63, .write, 0, .bad⟩ ∧
      (testing .online 63 0 (.mwr zeros)).bridge.state ≠ .format ∧
      (testing .online 63 0 (.mwr zeros)).bridge.state ≠ .contain ∧
      (testing .online 63 0 (.mwr zeros)).Awaits 0 .engine (.mwr zeros) 16773503 ∧
      ((testing .online 63 0 (.mwr zeros)).answered 0).CanIssue 0) ∧
    ((testing .online 62 0 .mrd).Awaits 0 .engine .mrd 16773502 ∧ (testing .online 62 0 .mrd).NoneWaits ∧
      classify (encode (Vector.replicate 64 (BitVec.ofNat 8 62))) = .clean (Vector.replicate 64 (BitVec.ofNat 8 62)) ∧
      (testing .online 62 0 .mrd).KeyFree (.phys (((testing .online 62 0 .mrd).V + 5) * 64 + (62 + 1))) ∧
      ((testing .online 62 0 .mrd).answered 0).CanIssue 0) ∧
    ((testing .online 63 0 .mrd).Awaits 0 .engine .mrd 16773503 ∧ (testing .online 63 0 .mrd).NoneWaits ∧
      classify (encode (Vector.replicate 64 (BitVec.ofNat 8 63))) = .clean (Vector.replicate 64 (BitVec.ofNat 8 63)) ∧
      classify twoAltered ≠ .clean (Vector.replicate 64 (BitVec.ofNat 8 63))) ∧
    ((testing .online 3 1 .mrd).Awaits 0 .engine .mrd 16773443 ∧ (testing .online 3 1 .mrd).CanIssue 1) ∧
    ((testing .online 3 2 .mrd).Awaits 0 .engine .mrd 16773443 ∧ (testing .online 3 2 .mrd).NoneWaits) :=
  ⟨⟨rfl, by decide, by decide, ⟨rfl, 20, by decide⟩, canIssue_zero _ (by decide) (by decide) (by decide)⟩,
    ⟨⟨rfl, 20, by decide⟩, by unfold State.NoneWaits; decide, classify_written _, by unfold State.KeyFree; decide,
      canIssue_zero _ (by decide) (by decide) (by decide)⟩,
    ⟨⟨rfl, 20, by decide⟩, by unfold State.NoneWaits; decide, classify_written _,
      by rw [test_two_altered_is_uncorrectable]; simp⟩,
    ⟨⟨rfl, 20, by decide⟩, by decide, by decide, by decide, by decide⟩, ⟨rfl, 20, by decide⟩,
    by unfold State.NoneWaits; decide⟩

/-- R58: read, write and timeout in CONTAIN and in FORMAT. -/
theorem witness_SpareMarkAndTest_abandoned :
    ((testing .contain 3 0 .mrd).bridge.state = .contain ∧ (testing .contain 3 0 .mrd).Awaits 0 .engine .mrd 16773443 ∧
      (testing .contain 3 0 (.mwr zeros)).Awaits 0 .engine (.mwr zeros) 16773443) ∧
    ((testing .format 3 0 .mrd).bridge.state = .format ∧ (testing .format 3 0 .mrd).NoneWaits ∧
      (testing .format 3 0 .mrd).Awaits 0 .engine .mrd 16773443 ∧
      ((testing .format 3 0 .mrd).answered 0).mem.NextTag 0 ∧ (testing .format 3 0 .mrd).mem.NextTag 1) ∧
    ((testing .format 3 0 (.mwr zeros)).NoneWaits ∧
      (testing .format 3 0 (.mwr zeros)).Awaits 0 .engine (.mwr zeros) 16773443 ∧
      ((testing .format 3 0 (.mwr zeros)).answered 0).mem.NextTag 0) :=
  ⟨⟨rfl, ⟨rfl, 20, by decide⟩, rfl, 20, by decide⟩,
    ⟨rfl, by unfold State.NoneWaits; decide, ⟨rfl, 20, by decide⟩, by unfold MemPort.NextTag; decide,
      by unfold MemPort.NextTag; decide⟩,
    by unfold State.NoneWaits; decide, ⟨rfl, 20, by decide⟩, by unfold MemPort.NextTag; decide⟩

theorem witness_RetireSubmits :
    let s : State := { online with map := twoEntries }
    s.resetLow = false ∧ s.map.Pairwise (fun a b => a.region < b.region) := by decide

/-- The job of 3.13 suspended at line 3, resumed after a soft reset, started from the queue, and a REPLACE of region 5. -/
theorem witness_JobStartsAndResumes :
    (online.resetLow = false ∧ ∀ j, online.engine ≠ .suspended j) ∧
      (let s : State := { online with map := [copyEntry 3], engine := .suspended (job 3 .none) }
       s.resetLow = false ∧ s.engine = .suspended (job 3 .none) ∧ s.KeyFree (.host (17 * 64 + 3)) ∧
         s.KeyFree (.phys ((s.V + 0) * 64 + 3)) ∧ s.KeyFree (.phys (17 * 64 + 3)) ∧ s.CanIssue 0) ∧
      (let s : State := { online with map := [copyEntry 3] }
       s.resetLow = false ∧ s.engine = .idle ∧ (s.bridge.state = .online ∨ s.bridge.state = .degraded) ∧
         s.map.find? MapEntry.isCopying = some (copyEntry 3) ∧ s.CanIssue 0 ∧ s.KeyFree (.host (17 * 64 + 3)) ∧
         s.KeyFree (.phys ((s.V + 0) * 64 + 3)) ∧ s.KeyFree (.phys (17 * 64 + 3))) ∧
      (let s : State := { inState .degraded with queue := [⟨17, .retire, .health⟩], spares := [.bad, .free] }
       s.resetLow = false ∧ s.engine = .idle ∧ (s.bridge.state = .online ∨ s.bridge.state = .degraded) ∧
         (∀ e ∈ s.map, e.isCopying = false) ∧ s.queue = ⟨17, .retire, .health⟩ :: [] ∧ s.spares[1]? = some .free ∧
         (∀ j < 1, s.spares[j]? ≠ some .free) ∧ s.KeyFree (.host (17 * 64)) ∧ s.KeyFree (.phys ((s.V + 1) * 64)) ∧
         s.CanIssue 0 ∧ (∀ e ∈ s.map, e.region ≠ 17) ∧ s.KeyFree (.phys (17 * 64))) ∧
      (let e : MapEntry := ⟨5, 2, .live, 0, .health, 0⟩
       let s : State :=
         { online with
           queue := [⟨5, .replace, .health⟩], map := [e], spares := [.bad, .bad, .inUse, .bad, .bad, .bad, .bad, .free] }
       s.resetLow = false ∧ s.engine = .idle ∧ (∀ e ∈ s.map, e.isCopying = false) ∧ s.spares[7]? = some .free ∧
         (∀ j < 7, s.spares[j]? ≠ some .free) ∧ s.KeyFree (.host (5 * 64)) ∧ s.KeyFree (.phys ((s.V + 7) * 64)) ∧
         s.CanIssue 0 ∧ findEntry s.map 5 = some e ∧ s.KeyFree (.phys ((s.V + 2) * 64))) := by
  refine ⟨⟨rfl, by simp [online, inState, State.reset]⟩, ⟨rfl, rfl, ?_, ?_, ?_, ?_⟩,
    ⟨rfl, rfl, .inl rfl, by decide, ?_, ?_, ?_, ?_⟩,
    ⟨rfl, rfl, .inr rfl, by decide, rfl, rfl, by decide, ?_, ?_, ?_, by decide, ?_⟩,
    rfl, rfl, by decide, rfl, by decide, ?_, ?_, ?_, by decide, ?_⟩
  all_goals first
    | exact canIssue_zero _ (by decide) (by decide) (by decide)
    | (unfold State.KeyFree; decide)

theorem witness_JobStartWithoutSpare :
    let s : State := { online with queue := [⟨17, .retire, .health⟩], spares := [.bad, .inUse] }
    s.resetLow = false ∧ s.engine = .idle ∧ (s.bridge.state = .online ∨ s.bridge.state = .degraded) ∧
      (∀ e ∈ s.map, e.isCopying = false) ∧ s.queue = ⟨17, .retire, .health⟩ :: [] ∧ (∀ x ∈ s.spares, x ≠ .free) ∧
      (∀ e ∈ s.map, e.region ≠ 17) := by decide

/-- The same with a REPLACE request of a region that has a LIVE entry. -/
theorem witness_JobStartWithoutSpare_replace :
    let e : MapEntry := ⟨17, 1, .live, 0, .health, 0⟩
    let s : State := { inState .degraded with queue := [⟨17, .replace, .health⟩], map := [e], spares := [.bad, .inUse] }
    s.engine = .idle ∧ (s.bridge.state = .online ∨ s.bridge.state = .degraded) ∧ (∀ e ∈ s.map, e.isCopying = false) ∧
      s.queue = ⟨17, .replace, .health⟩ :: [] ∧ (∀ x ∈ s.spares, x ≠ .free) ∧ findEntry s.map 17 = some e := by decide

theorem witness_CopyStepWritesSpare :
    let s := copying 3 .mrd 1091
    s.engine = .copying (job 3 .read) ∧ s.Awaits 0 .engine .mrd 1091 ∧ (s.answered 0).CanIssue 0 :=
  ⟨rfl, ⟨rfl, 20, by decide⟩, canIssue_zero _ (by decide) (by decide) (by decide)⟩

/-- At the boundary cursor 62. -/
theorem witness_CopyStepAdvances :
    let s := copying 62 (.mwr zeros) 16773182
    s.engine = .copying (job 62 .write) ∧ (job 62 .write).cursor < 63 ∧ s.Awaits 0 .engine (.mwr zeros) 16773182 ∧
      (s.bridge.state = .online ∨ s.bridge.state = .degraded) ∧ s.NoneWaits ∧ s.KeyFree (.host (17 * 64 + (62 + 1))) ∧
      s.KeyFree (.phys ((s.V + 0) * 64 + (62 + 1))) ∧ s.KeyFree (.phys (17 * 64 + (62 + 1))) ∧ (s.answered 0).CanIssue 0 :=
  ⟨rfl, by decide, ⟨rfl, 20, by decide⟩, .inl rfl, by unfold State.NoneWaits; decide, by unfold State.KeyFree; decide,
    by unfold State.KeyFree; decide, by unfold State.KeyFree; decide, canIssue_zero _ (by decide) (by decide) (by decide)⟩

/-- A state as containment leaves it while the engine's memory operation is in flight. -/
def halted (s : State) (j : CopyJob) : State := { s with bridge := { s.bridge with state := .contain }, engine := .halted j }

theorem witness_CopyStepAdvances_contain :
    let s := halted (copying 3 .mrd 1091) (job 3 .none)
    let t := halted (copying 63 (.mwr zeros) 16773183) (job 63 .none)
    (s.bridge.state = .contain ∧ (∀ x, s.engine ≠ .testing x) ∧ s.Awaits 0 .engine .mrd 1091) ∧
      t.bridge.state = .contain ∧ (∀ x, t.engine ≠ .testing x) ∧ t.Awaits 0 .engine (.mwr zeros) 16773183 :=
  ⟨⟨rfl, by simp [halted], rfl, 20, by decide⟩, rfl, by simp [halted], rfl, 20, by decide⟩

theorem witness_CopyJobCompletes :
    let s := copying 63 (.mwr zeros) 16773183
    s.engine = .copying (job 63 .write) ∧ (job 63 .write).cursor = 63 ∧ s.Awaits 0 .engine (.mwr zeros) 16773183 ∧
      (s.bridge.state = .online ∨ s.bridge.state = .degraded) ∧ s.NoneWaits ∧ findEntry s.map 17 = some (copyEntry 63) ∧
      (copyEntry 63).state = .copying .retire 17 63 ∧ ∀ x ∈ s.map, x.region = 17 → x = copyEntry 63 :=
  ⟨rfl, rfl, ⟨rfl, 20, by decide⟩, .inl rfl, by unfold State.NoneWaits; decide, by decide, rfl, by decide⟩

/-- A write of line 5000 in flight under tag 3, with a read of tag 4 waiting behind it. -/
def queued : State :=
  let s := serving (hostOp (.wr Data.zero) .dataWrite 0) (.mwr zeros)
  { s with
    ops := s.ops ++ [⟨4, .rd, 5000, none, .waitHold, 0, false, false⟩]
    link := ⟨false, [3, 4]⟩
    order := s.order.append (.host 5000) (.host 4) false }

/-- The key taken; the request itself the first on its key and held back; the first on the key another, held back. -/
theorem witness_RequestWaitsItsTurn :
    (queued.Accepts 6 ((5000 : BitVec 32).toNat % 2 ^ 28) ∧
      ∃ e ∈ queued.order.entries, e.key = .host ((5000 : BitVec 32).toNat % 2 ^ 28) ∧ e.active = true) ∧
      (let s := holding online (.phys 5000) .diag
       s.Accepts 6 ((5000 : BitVec 32).toNat % 2 ^ 28) ∧ s.KeyFree (.host ((5000 : BitVec 32).toNat % 2 ^ 28)) ∧
         ∃ p ∈ [translate s.V s.map ((5000 : BitVec 32).toNat % 2 ^ 28)], ∃ e ∈ s.order.entries, e.key = .phys p) ∧
      (let d := holding online (.phys 5000) .diag
       let s : State := { d with order := d.order.append (.host 5000) .patrol false }
       s.Accepts 6 ((5000 : BitVec 32).toNat % 2 ^ 28) ∧
         s.order.entries = d.order.entries ++ ⟨.host 5000, .patrol, false, 1, false⟩ :: [] ∧
         (∀ x ∈ d.order.entries, x.key ≠ .host 5000) ∧
         ∃ p ∈ [translate s.V s.map 5000], ∃ x ∈ s.order.entries, x.key = .phys p) :=
  ⟨⟨⟨rfl, by decide, by decide, by decide, by decide, by decide⟩, by decide⟩,
    ⟨⟨rfl, by decide, by decide, by decide, by decide, by decide⟩, by unfold State.KeyFree; decide, by decide⟩,
    ⟨rfl, by decide, by decide, by decide, by decide, by decide⟩, by decide, by decide, by decide⟩

/-- A visit, a copy step, a spare test and a diagnostic operation that meet a hold of their key. -/
theorem witness_RequestWaitsItsTurn_others :
    (let s := holding (patrolling 5000) (.host 5000) .diag
     s.resetLow = false ∧ s.patrol.timer = .running 100 ∧ s.patrol.running = true ∧ s.patrol.visit = none ∧
       (s.bridge.state = .online ∨ s.bridge.state = .degraded) ∧
       (∀ e, findEntry s.map (s.patrol.position / 64) = some e → e.isCopying = false) ∧
       ∃ e ∈ s.order.entries, e.key = .host s.patrol.position ∧ e.active = true) ∧
      (let s := holding { online with map := [copyEntry 3], engine := .suspended (job 3 .none) } (.host 1091) .diag
       s.resetLow = false ∧ s.engine = .suspended (job 3 .none) ∧
         ∃ e ∈ s.order.entries, e.key = .host ((job 3 .none).region * 64 + (job 3 .none).cursor) ∧ e.active = true) ∧
      (let s := holding online (.phys ((online.V + 63) * 64)) .diag
       s.resetLow = false ∧ s.bridge.state ≠ .format ∧ s.bridge.state ≠ .contain ∧ s.engine = .idle ∧
         (∀ e ∈ s.map, e.isCopying = false) ∧ (63 : Byte).toNat < s.S ∧ s.spares[(63 : Byte).toNat]? = some .free ∧
         ∃ e ∈ s.order.entries, e.key = .phys ((s.V + (63 : Byte).toNat) * 64) ∧ e.active = true) ∧
      (let s := { testing .standby 3 0 .mrd with mgmt := { online.mgmt with view := ⟨zeros, 9, .clean, true⟩ } }
       let p := (16773443 : BitVec 32).toNat
       s.resetLow = false ∧ s.bridge.state = .standby ∧ s.mgmt.diag = none ∧ p < s.P * 64 ∧
         s.relation (p / 64) = .unused ∧ s.mgmt.view.valid = true ∧ servedBy s.V s.map p = none ∧
         ∃ e ∈ s.order.entries, e.key = .phys p ∧ e.active = true) := by
  refine ⟨⟨rfl, rfl, rfl, rfl, .inl rfl, ?_, by decide⟩, by decide, by decide, by decide⟩
  intro e he; cases he

/-- The REPLACE job of spare 2 to spare 7 at line 3 of region 5, with a diagnostic hold on PHYS of its source line, taken before a
MAP_LOAD put spare 2 in service; nothing else. -/
def sourceHeld : State :=
  { holding online (.phys 16773251) .diag with
    map := [⟨5, 7, .copying .replace 262082 3, 0, .health, 0⟩]
    engine := .suspended ⟨5, .replace, 7, 262082, 3, .none, 0, 3, false⟩ }

theorem witness_RequestWaitsItsTurn_source :
    sourceHeld.KeyFree (.host (5 * 64 + 3)) ∧ 16773251 = 262082 * 64 + 3 ∧
      ∃ p ∈ [(sourceHeld.V + 7) * 64 + 3, 262082 * 64 + 3], ∃ x ∈ sourceHeld.order.entries, x.key = .phys p :=
  ⟨by unfold State.KeyFree; decide, rfl, by decide⟩

/-- R72: the step does not read its source while the diagnostic operation holds that line. -/
theorem test_source_line_holds_the_copy_step_back :
    (after .resumeCopy sourceHeld).memOut = [] ∧
      (after .resumeCopy sourceHeld).order.entries.map (·.active) = [true, false] := by decide

/-- A write of line 5000 in flight under host tag 3, with the hold of an owner waiting behind it. -/
def followed (o : Owner) : State :=
  let s := serving (hostOp (.wr Data.zero) .dataWrite 0) (.mwr zeros)
  { s with order := s.order.append (.host 5000) o false }

/-- With whatever waits, and an unchanged hold table. -/
theorem followed_meets (o : Owner) (ho : o ≠ .host 3) (s : State) (hs : s.order = (followed o).order)
    (hb : s.bridge = online.bridge) (hm : s.mem = (followed o).mem) (hr : s.resetLow = false)
    (hop : s.opOf 3 = some (hostOp (.wr Data.zero) .dataWrite 0)) :
    let a := hostOp (.wr Data.zero) .dataWrite 0
    let ea : Hold := ⟨.host 5000, .host 3, true, 0, false⟩
    let eb : Hold := ⟨.host 5000, o, false, 1, false⟩
    (s.bridge.state = .online ∨ s.bridge.state = .degraded) ∧ s.opOf a.tag = some a ∧ a.phase = .dataWrite ∧
      a.orphan = false ∧ s.Awaits 0 (.host a.tag) (.mwr zeros) 5000 ∧ (s.answered 0).CanIssue 0 ∧
      s.holdOf (.host a.tag) = some ea ∧ s.order.entries.filter (fun e => e.key = .host a.line) = ea :: eb :: [] ∧
      ea.owner = .host a.tag ∧ (∀ e ∈ eb :: [], e.active = false ∧ e.owner ≠ .host a.tag) ∧ eb.owner = o ∧
      s.KeyFree (.phys (translate s.V s.map a.line)) ∧ s.KeyFree (.phys ((s.V + 0) * 64 + 3)) ∧
      s.KeyFree (.phys (17 * 64 + 3)) := by
  have he : s.order.entries = [⟨.host 5000, .host 3, true, 0, false⟩, ⟨.host 5000, o, false, 1, false⟩] := by rw [hs]; rfl
  have hm' : s.mem = ⟨[⟨0, .mwr zeros, 5000, .host 3, 0, 20⟩], [], 0, 0, []⟩ := hm
  have hk (p : Nat) : s.KeyFree (.phys p) := by
    intro e hx; rw [he] at hx
    rcases List.mem_cons.mp hx with rfl | hx
    · simp
    · rw [List.mem_singleton] at hx; subst hx; simp
  refine ⟨.inl (by rw [hb]; rfl), hop, rfl, rfl, ⟨hr, 20, ?_⟩, canIssue_zero _ ?_ ?_ ?_, ?_, ?_, rfl, ?_, rfl, hk _, hk _, hk _⟩
  · unfold State.activeOf; rw [hm']; decide
  · show s.bridge.state ≠ _; rw [hb]; decide
  · show s.mem.quarantine.length < _; rw [hm']; decide
  · show MemPort.tagFree { s.mem with active := _, faults := 0 } 0 = _; rw [hm']; decide
  · unfold State.holdOf; rw [he]; rfl
  · rw [he]; rfl
  · intro e hx; rw [List.mem_singleton] at hx; subst hx; exact ⟨rfl, ho⟩

/-- The waiter is an RD, a WR, a visit, a copy step, a diagnostic operation; `followed_meets` gives the rest. -/
theorem witness_ReleaseActivatesOldestWaiter :
    let with4 (req : HostReq) : State :=
      { followed (.host 4) with ops := (followed (.host 4)).ops ++ [⟨4, req, 5000, none, .waitHold, 0, false, false⟩] }
    let v : Visit := ⟨5000, none, .waitHold, 0, .none⟩
    let visit : State := { followed .patrol with patrol := { online.patrol with running := true, visit := some v } }
    let step : State := { followed .engine with engine := .copying (job 3 .waitHold) }
    let diag : State := { followed .diag with mgmt := { online.mgmt with diag := some ⟨.fetch, 5000⟩ } }
    (∀ s, s = with4 .rd ∨ s = with4 (.wr Data.zero) → s.order = (followed (.host 4)).order ∧
        s.bridge = online.bridge ∧ s.mem = (followed (.host 4)).mem ∧ s.resetLow = false ∧
        s.opOf 3 = some (hostOp (.wr Data.zero) .dataWrite 0)) ∧
      (with4 .rd).opOf 4 = some ⟨4, .rd, 5000, none, .waitHold, 0, false, false⟩ ∧
      (with4 (.wr Data.zero)).opOf 4 = some ⟨4, .wr Data.zero, 5000, none, .waitHold, 0, false, false⟩ ∧
      (visit.order = (followed .patrol).order ∧ visit.patrol.visit = some v ∧ v.line = 5000 ∧
        ∀ e, findEntry visit.map (5000 / 64) = some e → e.isCopying = false) ∧
      (step.order = (followed .engine).order ∧ step.engine = .copying (job 3 .waitHold)) ∧
      diag.order = (followed .diag).order ∧ diag.mgmt.diag = some ⟨.fetch, 5000⟩ := by
  refine ⟨?_, by decide, by decide, ⟨rfl, rfl, rfl, ?_⟩, ⟨rfl, rfl⟩, rfl, rfl⟩
  · rintro s (rfl | rfl) <;> exact ⟨rfl, rfl, rfl, rfl, by decide⟩
  · intro e he; cases he

/-- A diagnostic operation that holds PHYS of physical line 5000, which a map loaded since gives to host line 775, and a read
of that host line held back. -/
def heldBack (k : MemKind) (d : DiagKind) : State :=
  let s := holding (flying .diag k 16773127) (.phys 16773127) .diag
  { s with
    map := [⟨12, 0, .live, 0, .loaded, 0⟩]
    mgmt := { s.mgmt with diag := some ⟨d, 16773127⟩ }
    ops := [⟨4, .rd, 775, none, .waitHold, 0, false, false⟩]
    link := ⟨false, [4]⟩
    order := s.order.append (.host 775) (.host 4) false }

theorem witness_ReleaseActivatesOldestWaiter_phys :
    let b : HostOp := ⟨4, .rd, 775, none, .waitHold, 0, false, false⟩
    let eb : Hold := ⟨.host 775, .host 4, false, 1, false⟩
    let s := heldBack .mrd .fetch
    let w := heldBack (.mwr zeros) .storeCode
    ((s.bridge.state = .online ∨ s.bridge.state = .degraded) ∧ s.mgmt.diag = some ⟨.fetch, 16773127⟩ ∧
      s.opOf b.tag = some b ∧ b.req = .rd ∧ b.line = 775 ∧ (s.answered 0).CanIssue 0 ∧
      s.holdOf .diag = some ⟨.phys 16773127, .diag, true, 0, false⟩ ∧ 16773127 = translate s.V s.map 775 ∧
      (∀ e ∈ s.order.entries, e.key = .phys 16773127 → e.owner = .diag) ∧
      (∀ e ∈ s.order.entries, e.active = false → e.key = .host 775) ∧
      s.order.entries.filter (fun e => e.key = .host 775) = eb :: [] ∧ eb.owner = .host b.tag ∧
      (∀ e ∈ eb :: [], e.active = false ∧ e.owner ≠ .diag) ∧ s.Awaits 0 .diag .mrd 16773127 ∧
      classify poisoned = .poison) ∧
      w.order = s.order ∧ w.Awaits 0 .diag (.mwr zeros) 16773127 :=
  ⟨⟨.inl rfl, rfl, by decide, rfl, rfl, canIssue_zero _ (by decide) (by decide) (by decide), by decide, by decide, by decide,
    by decide, by decide, rfl, by decide, ⟨rfl, 20, by decide⟩, test_poison_mark_is_poison⟩, rfl, rfl, 20, by decide⟩

/-- The step of `sourceHeld` waiting, the diagnostic operation awaiting its answer. -/
def stepHeldBack : State :=
  let s := holding (flying .diag .mrd 16773251) (.phys 16773251) .diag
  { s with
    map := sourceHeld.map
    engine := .copying ⟨5, .replace, 7, 262082, 3, .waitHold, 0, 0, false⟩
    mgmt := { s.mgmt with diag := some ⟨.fetch, 16773251⟩ }
    order := s.order.append (.host 323) .engine false }

/-- The PHYS hold is on the step's source line. -/
theorem witness_ReleaseActivatesOldestWaiter_step :
    let s := stepHeldBack
    let j : CopyJob := ⟨5, .replace, 7, 262082, 3, .waitHold, 0, 0, false⟩
    let eb : Hold := ⟨.host 323, .engine, false, 1, false⟩
    (s.bridge.state = .online ∨ s.bridge.state = .degraded) ∧ s.mgmt.diag = some ⟨.fetch, 16773251⟩ ∧
      (s.answered 0).CanIssue 0 ∧ s.holdOf .diag = some ⟨.phys 16773251, .diag, true, 0, false⟩ ∧
      (∀ e ∈ s.order.entries, e.active = false → e.key = .host 323) ∧
      s.order.entries.filter (fun e => e.key = .host 323) = eb :: [] ∧
      (∀ e ∈ eb :: [], e.active = false ∧ e.owner ≠ .diag) ∧ s.engine = .copying j ∧ 16773251 = j.source * 64 + j.cursor ∧
      (∀ e ∈ s.order.entries,
        e.key = .phys ((s.V + j.spare) * 64 + j.cursor) ∨ e.key = .phys (j.source * 64 + j.cursor) → e.owner = .diag) ∧
      s.Awaits 0 .diag .mrd 16773251 :=
  ⟨.inl rfl, rfl, canIssue_zero _ (by decide) (by decide) (by decide), by decide, by decide, by decide, by decide, rfl, rfl,
    by decide, rfl, 20, by decide⟩

theorem witness_OneActiveHoldKept :
    HoldLaw queued ∧ exec (.writeAck 0 0) queued = .next (after (.writeAck 0 0) queued) :=
  ⟨by unfold HoldLaw; decide, rfl⟩

/-- Boundary: the first line out of range; kind bytes on both sides of the three request kinds. -/
theorem witness_AcceptanceChecks :
    online.resetLow = false ∧ ({ online with link := ⟨true, []⟩ } : State).link.quiesce = true ∧
      (queued.resetLow = false ∧ queued.link.quiesce = false ∧ (3 : Fin 32) ∈ queued.link.busy ∧
        (5 : Fin 32) ∉ queued.link.busy) ∧
      (inState .contain).bridge.state = .contain ∧ (inState .standby).bridge.state = .standby ∧
      (online.bridge.state = .online ∧ online.V * 64 ≤ (16773120 : BitVec 32).toNat % 2 ^ 28) ∧
      ((0x00 : Byte) ≠ 0x01 ∧ (0x00 : Byte) ≠ 0x02 ∧ (0x00 : Byte) ≠ 0x03) ∧
      ((0x04 : Byte) ≠ 0x01 ∧ (0x04 : Byte) ≠ 0x02 ∧ (0x04 : Byte) ≠ 0x03) := by decide

/-- The last host line of the default geometry, with address bits 28..31 set. -/
theorem witness_AcceptedRequestIssues :
    let h := (0xF0FFEFFF : BitVec 32).toNat % 2 ^ 28
    h = 16773119 ∧ online.Accepts 6 h ∧ online.KeyFree (.host h) ∧
      online.KeyFree (.phys (translate online.V online.map h)) ∧ online.CanIssue 0 ∧
      ((1 : BitVec 64) ≠ 0 ∧ (1 : BitVec 64) ≠ BitVec.allOnes 64) ∧
      ∀ e ∈ online.order.entries, e.owner ≠ .host 6 :=
  ⟨by decide, ⟨rfl, by decide, by decide, by decide, by decide, by decide⟩, by unfold State.KeyFree; decide,
    by unfold State.KeyFree; decide, canIssue_zero _ (by decide) (by decide) (by decide), by decide, by decide⟩

/-- A host operation of this request and phase meets what the statements about a host operation's answer ask. -/
theorem serving_meets (req : HostReq) (phase : HostPhase) (n : Nat) (k : MemKind) :
    let s := serving (hostOp req phase n) k
    let op := hostOp req phase n
    (s.bridge.state = .online ∨ s.bridge.state = .degraded) ∧ s.NoneWaits ∧ s.opOf op.tag = some op ∧
      op.phys = some 5000 ∧ op.orphan = false ∧ s.Awaits 0 (.host op.tag) k 5000 ∧ (s.answered 0).CanIssue 0 :=
  ⟨.inl rfl, by simp [State.NoneWaits, serving, holding, flying, online, inState, State.reset, LineOrder.append],
    by simp [State.opOf, serving, holding, hostOp], rfl, rfl, ⟨rfl, 20, by simp [State.activeOf, serving, holding, flying, online,
      inState, State.reset, hostOp]⟩,
    canIssue_zero _ (by simp [State.answered, serving, holding, flying, online, inState])
      (by simp [State.answered, serving, holding, flying, online, inState, State.reset])
      (by simp [State.answered, serving, holding, flying, online, inState, State.reset, MemPort.tagFree])⟩

/-- With `serving_meets`: the phase of a first read and of a retry, and a codeword of each outcome. -/
theorem witness_ReadAnswered :
    (hostOp .rd .read 1).req = .rd ∧ (hostOp .rd .read 1).phase = .read ∧ (hostOp .rd .retry 3).phase = .retry ∧
      classify zeros = .clean Data.zero ∧ classify poisoned = .poison ∧ ∃ k v, classify oneAltered = .corrected k v :=
  ⟨rfl, rfl, rfl, test_zero_line_is_clean, test_poison_mark_is_poison, test_one_altered_is_corrected⟩

/-- A host operation in flight in CONTAIN, of this request and phase, as an orphan or not. -/
def contained (req : HostReq) (phase : HostPhase) (orphan : Bool) (k : MemKind) : State :=
  let s := serving { hostOp req phase 1 with orphan } k
  { s with bridge := { s.bridge with state := .contain } }

/-- In CONTAIN: a read, a partial write's read, and each write. -/
theorem contained_meets (req : HostReq) (phase : HostPhase) (orphan : Bool) (k : MemKind) :
    let s := contained req phase orphan k
    let op : HostOp := { hostOp req phase 1 with orphan }
    s.bridge.state = .contain ∧ s.opOf op.tag = some op ∧ op.phys = some 5000 ∧ op.phase = phase ∧
      s.Awaits 0 (.host op.tag) k 5000 :=
  ⟨rfl, by simp [State.opOf, contained, serving, holding, hostOp], rfl, rfl, rfl, 20,
    by simp [State.activeOf, contained, serving, holding, flying, online, inState, State.reset, hostOp]⟩

/-- READ_RETRIES is 2: the second retry is made, the third is not; both policies. -/
theorem witness_UncorrectableReadHandled :
    let s := serving (hostOp .rd .retry 2) .mrd
    let t := serving (hostOp .rd .retry 3) .mrd
    (hostOp .rd .retry 2).phase = .retry ∧ classify twoAltered = .uncorrectable ∧
      (hostOp .rd .retry 2).attempts - 1 < s.mgmt.params.readRetries ∧
      t.mgmt.params.readRetries ≤ (hostOp .rd .retry 3).attempts - 1 ∧ t.mgmt.params.uePolicy = .poison ∧
      (t.mgmt.params.set 5 1).uePolicy = .contain :=
  ⟨rfl, test_two_altered_is_uncorrectable, by decide, by decide, rfl, rfl⟩

/-- With `serving_meets`: a first read and a retry, which is a transient. -/
theorem witness_PartialWriteMerges :
    (hostOp (.wrp Data.zero 0xFFFF) .read 1).req = .wrp Data.zero 0xFFFF ∧
      (hostOp (.wrp Data.zero 0xFFFF) .read 1).phase = .read ∧ (hostOp (.wrp Data.zero 0xFFFF) .retry 2).phase = .retry ∧
      classify zeros = .clean Data.zero ∧ classify poisoned = .poison ∧ ∃ k v, classify oneAltered = .corrected k v :=
  ⟨rfl, rfl, rfl, test_zero_line_is_clean, test_poison_mark_is_poison, test_one_altered_is_corrected⟩

/-- With `serving_meets` for the three phases and `contained_meets` in CONTAIN; an orphan, with another orphan left and
without. -/
theorem witness_HostWriteAcknowledged :
    let op : HostOp := { hostOp (.wr Data.zero) .dataWrite 0 with orphan := true }
    let other : HostOp := { op with tag := 9, line := 9 }
    let s := serving op (.mwr zeros)
    let s2 : State := { s with ops := [op, other] }
    (hostOp (.wr Data.zero) .dataWrite 0).phase = .dataWrite ∧ op.orphan = true ∧ s.opOf op.tag = some op ∧
      (∀ o ∈ (s.answered 0).ops.filter (fun o => o.tag ≠ op.tag), o.orphan = false) ∧
      ∃ o ∈ (s2.answered 0).ops.filter (fun o => o.tag ≠ op.tag), o.orphan = true := by decide

theorem witness_ResponseLawKept :
    (∀ r ∈ [(⟨3, .corrected, some Data.zero⟩ : Response), ⟨4, .failed, none⟩], r.law) ∧
      exec (.rd 6 16773120) online = .next (after (.rd 6 16773120) online) :=
  ⟨by
    intro r hr
    simp only [List.mem_cons, List.not_mem_nil, or_false] at hr
    rcases hr with rfl | rfl <;> simp [Response.law], rfl⟩

theorem witness_CodewordLawKept :
    CodewordLaw (serving (hostOp .rd .retry 3) .mrd) ∧ MemKind.law (.mwr zeros) ∧ MemKind.law (.mwr poisoned) ∧
      exec (.writeAck 0 0) (copying 3 (.mwr zeros) 16773123) =
        .next (after (.writeAck 0 0) (copying 3 (.mwr zeros) 16773123)) :=
  ⟨⟨by simp [serving, holding, flying, online, inState, State.reset],
      by simp [serving, holding, flying, online, inState, State.reset]⟩, .inl (by decide), .inr (by decide +kernel), rfl⟩

/-! The Health Tracker -/

/-- ONLINE with these suspects and one CORRECTED(31) report of line 40,969 (region 640) handed. -/
def reporting (l : List Suspect) (m : List MapEntry) : State :=
  { online with suspects := l, map := m, inbox := [.report ⟨.corrected 31, .host, 40969⟩] }

/-- The relations; a region without an entry; a WATCH entry one below the threshold 8 and two below it. -/
theorem witness_ReportTaken :
    (let s := reporting [] [⟨640, 0, .live, 0, .health, 0⟩]
     s.resetLow = false ∧ s.inbox = .report ⟨.corrected 31, .host, 40969⟩ :: [] ∧
       s.suspects.countP (fun e => e.status = .requested) < 9 ∧ s.relation (40969 / 64) = .retired 640) ∧
      (reporting [] []).relation 262080 = .unused ∧
      (let s := reporting [suspect 640 7 0 .watch] []
       s.relation 640 = .unmapped 640 ∧ s.suspectOf 640 = some (suspect 640 7 0 .watch) ∧
         s.mgmt.params.ceThreshold ≤ 7 + 1 ∧ ¬ s.mgmt.params.ceThreshold ≤ 6 + 1 ∧ s.mgmt.params.autoRetire = true ∧
         s.queue.length < 8 ∧ (∀ x ∈ s.queue, x.region ≠ 640) ∧ (∀ x ∈ s.map, x.isCopying = true → x.region ≠ 640)) ∧
      ((reporting [] [⟨17, 0, .live, 0, .health, 0⟩]).relation 262080 = .inService 17) ∧
      ((reporting [] [⟨17, 0, .copying .retire 17 3, 0, .health, 0⟩]).relation 262080 = .inCopy 17 false) ∧
      ((reporting [] []).suspects.length < 32 ∧ ∀ e ∈ (reporting [] []).suspects, e.region ≠ 640) ∧
      (Params.default.set 10 0).autoRetire = false ∧ (Params.default.set 11 1).eventCorrected = true := by decide

/-- R99 and R110: nine entries REQUESTED with the engine's notice waiting; a pass end between two other happenings. -/
theorem witness_ReportTaken_order :
    (let l := (List.range 9).map fun i => suspect i 8 0 .requested
     9 ≤ l.countP (fun e => e.status = .requested) ∧
       ∃ r, Handed.stranded r ∈ [Handed.stranded 3] ∨ Handed.removal r ∈ [Handed.stranded 3]) ∧
      (let rest : List Handed := [.removal 5, .passEnd 40, .passEnd 41]
       rest = [.removal 5] ++ .passEnd 40 :: [.passEnd 41] ∧ ∀ n, Handed.passEnd n ∉ [Handed.removal 5]) ∧
      ∀ n, Handed.passEnd n ∉ ([] : List Handed) :=
  ⟨⟨by decide, 3, by decide⟩, ⟨rfl, by simp⟩, by simp⟩

/-- A STRANDED entry with a FREE spare fires at once; a REQUESTED and a NOTIFIED entry do not; a new entry fires by its ue flag;
a queue that is full, and one that holds the region. -/
theorem witness_ReportTaken_statuses :
    (let s := reporting [suspect 640 200 0 .stranded] []
     s.suspectOf 640 = some (suspect 640 200 0 .stranded) ∧ SpareState.free ∈ s.spares ∧
       s.mgmt.params.ceThreshold ≤ 200 + 1) ∧
      (reporting [suspect 640 255 0 .requested] []).suspectOf 640 = some (suspect 640 255 0 .requested) ∧
      (reporting [suspect 640 255 0 .notified] []).suspectOf 640 = some (suspect 640 255 0 .notified) ∧
      (let e : Suspect := { suspect 640 0 0 .watch with ue := true }
       e.status = .watch ∧ e.ue = true ∧ (∀ x ∈ (reporting [] []).suspects, x.region ≠ 640)) ∧
      8 ≤ ((List.range 8).map fun i => (⟨i, .retire, .health⟩ : Request)).length ∧
      ∃ x ∈ [(⟨640, .retire, .management⟩ : Request)], x.region = 640 := by decide

/-- The table of 6.8 at a small scale: 32 entries, of which those at positions 0 and 1 tie in count. -/
theorem witness_FullTableEvicts :
    let rest : List Suspect := (List.range 30).map fun i => suspect (1000 + i) 2 40 .watch
    let s : State :=
      { reporting (suspect 9000 1 37 .notified :: suspect 641 1 38 .watch :: rest) [] with
        patrol := { online.patrol with pass := 40 } }
    s.resetLow = false ∧ s.inbox = .report ⟨.corrected 31, .host, 40969⟩ :: [] ∧
      s.mgmt.params.eventCorrected = false ∧ 2 ≤ s.mgmt.params.ceThreshold ∧ s.relation (40969 / 64) = .unmapped 640 ∧
      32 ≤ s.suspects.length ∧ (s.suspects.map (·.region)).Nodup ∧ (∀ e ∈ s.suspects, e.region ≠ 40969 / 64) ∧
      s.suspects.countP (fun e => e.status = .requested) < 9 ∧
      s.suspects = [] ++ suspect 9000 1 37 .notified :: (suspect 641 1 38 .watch :: rest) ∧
      (∀ x ∈ suspect 641 1 38 .watch :: rest, x.status ≠ .requested →
        1 < x.count ∨ 1 = x.count ∧ (s.patrol.pass - x.touched).toNat ≤ (s.patrol.pass - 37).toNat) ∧
      ∀ e ∈ (List.range 32).map (fun i => suspect (1000 + i) 2 40 .requested), e.status = .requested := by decide

theorem witness_NoticesTaken :
    online.resetLow = false ∧ ({ online with inbox := [.passEnd 40] } : State).inbox = .passEnd 40 :: [] ∧
      ({ online with inbox := [.stranded 7] } : State).inbox = .stranded 7 :: [] ∧
      ({ online with inbox := [.removal 7] } : State).inbox = .removal 7 :: [] := by decide

theorem witness_SuspectLawKept :
    SuspectLaw (reporting [suspect 640 255 0 .watch, suspect 7 0 0 .requested] []) ∧
      exec .reportTaken (reporting [suspect 640 255 0 .watch, suspect 7 0 0 .requested] []) =
        .next (after .reportTaken (reporting [suspect 640 255 0 .watch, suspect 7 0 0 .requested] [])) :=
  ⟨by unfold SuspectLaw; decide, rfl⟩

/-- The last region of the array, and the first beyond it. -/
theorem witness_RecordClearsReply :
    online.resetLow = false ∧ ((2 : Byte) ≠ 0x00 ∧ (2 : Byte) ≠ 0x01) ∧ online.P ≤ (262144 : BitVec 32).toNat ∧
      (262143 : BitVec 32).toNat < online.P ∧ (∀ e ∈ online.suspects, e.region ≠ 262143) ∧
      (reporting [suspect 262143 1 0 .watch] []).suspectOf 262143 = some (suspect 262143 1 0 .watch) := by decide

theorem witness_RecordReadsReply : online.resetLow = false ∧ (testing .online 3 1 .mrd).resetLow = false := by decide

/-! Patrol -/

/-- The position before the last line, with its region under copy, and the last line. -/
theorem witness_PatrolPace :
    (patrolling 0).resetLow = false ∧ (patrolling 0).patrol.timer = .running 100 ∧ online.patrol.running = false ∧
      ((visiting .read 1 5000 .mrd).patrol.visit = some ⟨5000, some 5000, .read, 1, .none⟩ ∧
        (visiting .read 1 5000 .mrd).patrol.running = true ∧ (visiting .read 1 5000 .mrd).bridge.state ≠ .contain) ∧
      (let s : State := { patrolling 16773118 with map := [⟨262079, 0, .copying .retire 262079 3, 0, .health, 0⟩] }
       s.patrol.running = true ∧ s.patrol.visit = none ∧ s.bridge.state = .online ∧
         (∃ e, findEntry s.map (s.patrol.position / 64) = some e ∧ e.isCopying = true) ∧
         s.patrol.position + 1 < s.V * 64) ∧
      (let s := patrolling 16773119
       (∀ e, findEntry s.map (s.patrol.position / 64) = some e → e.isCopying = false) ∧
         s.KeyFree (.host s.patrol.position) ∧ s.KeyFree (.phys (translate s.V s.map s.patrol.position)) ∧
         s.CanIssue 0) :=
  ⟨rfl, rfl, rfl, by decide, ⟨rfl, rfl, rfl, ⟨⟨262079, 0, .copying .retire 262079 3, 0, .health, 0⟩, by decide⟩, by decide⟩,
    ⟨fun _ he => (nomatch he), by unfold State.KeyFree; decide, by unfold State.KeyFree; decide,
      canIssue_zero _ (by decide) (by decide) (by decide)⟩⟩

/-- The last position at which no pass ends: a retry, and a write. -/
theorem witness_VisitReadAnswered :
    let s := visiting .retry 2 16773118 .mrd
    let v : Visit := ⟨5000, some 5000, .retry, 2, .none⟩
    ((s.bridge.state = .online ∨ s.bridge.state = .degraded) ∧ s.NoneWaits ∧ s.patrol.visit = some v ∧
      v.phys = some 5000 ∧ (v.phase = .read ∨ v.phase = .retry) ∧ s.patrol.due = false ∧
      s.patrol.position + 1 < s.V * 64 ∧ s.Awaits 0 .patrol .mrd 5000 ∧ (s.answered 0).CanIssue 0) ∧
      (visiting .write 2 16773118 (.mwr zeros)).NoneWaits ∧
      (visiting .write 2 16773118 (.mwr zeros)).Awaits 0 .patrol (.mwr zeros) 5000 :=
  ⟨⟨.inl rfl, by unfold State.NoneWaits; decide, rfl, rfl, .inr rfl, rfl, by decide, ⟨rfl, 20, by decide⟩,
    canIssue_zero _ (by decide) (by decide) (by decide)⟩, by unfold State.NoneWaits; decide, rfl, 20, by decide⟩

/-- A visit due, with the next line, the last of region 79, under copy or not; in CONTAIN. -/
theorem witness_VisitReadAnswered_due :
    let s : State :=
      { visiting .read 1 5000 .mrd with patrol := { (visiting .read 1 5000 .mrd).patrol with due := true, position := 5118 } }
    let e : MapEntry := ⟨79, 0, .copying .retire 79 3, 0, .health, 0⟩
    let u : State := { s with map := [e] }
    let c : State := { s with bridge := { s.bridge with state := .contain } }
    (s.patrol.due = true ∧ s.patrol.running = true ∧ s.NoneWaits ∧ s.Awaits 0 .patrol .mrd 5000 ∧
      s.patrol.position + 1 < s.V * 64 ∧ classify zeros = .clean Data.zero ∧
      (∀ x, findEntry s.map ((s.patrol.position + 1) / 64) = some x → x.isCopying = false) ∧
      s.KeyFree (.host (s.patrol.position + 1)) ∧ s.KeyFree (.phys (translate s.V s.map (s.patrol.position + 1))) ∧
      (s.answered 0).CanIssue 0) ∧
      (findEntry u.map ((u.patrol.position + 1) / 64) = some e ∧ e.isCopying = true ∧
        u.patrol.position + 1 + 1 < u.V * 64) ∧
      c.bridge.state = .contain ∧ c.Awaits 0 .patrol .mrd 5000 :=
  ⟨⟨rfl, rfl, by unfold State.NoneWaits; decide, ⟨rfl, 20, by decide⟩, by decide, test_zero_line_is_clean,
    fun _ he => (nomatch he), by unfold State.KeyFree; decide, by unfold State.KeyFree; decide,
    canIssue_zero _ (by decide) (by decide) (by decide)⟩, by decide, rfl, rfl, 20, by decide⟩

/-- The last line: read, in service and in CONTAIN, and skipped. -/
theorem witness_PassEnds :
    let s := visiting .read 1 16773119 .mrd
    let v : Visit := ⟨5000, some 5000, .read, 1, .none⟩
    let c : State := { s with bridge := { s.bridge with state := .contain } }
    let e : MapEntry := ⟨262079, 0, .copying .retire 262079 3, 0, .health, 0⟩
    let u : State := { patrolling 16773119 with map := [e] }
    (s.resetLow = false ∧ (s.bridge.state = .online ∨ s.bridge.state = .degraded) ∧ s.NoneWaits ∧
      s.patrol.visit = some v ∧ v.phase = .read ∧ s.patrol.due = false ∧ s.patrol.position + 1 = s.V * 64 ∧
      s.Awaits 0 .patrol .mrd 5000 ∧ classify zeros = .clean Data.zero) ∧
      (c.bridge.state = .contain ∧ c.Awaits 0 .patrol .mrd 5000) ∧
      u.patrol.timer = .running 100 ∧ u.patrol.running = true ∧ u.patrol.visit = none ∧ u.patrol.position + 1 = u.V * 64 ∧
      findEntry u.map (u.patrol.position / 64) = some e ∧ e.isCopying = true :=
  ⟨⟨rfl, .inl rfl, by unfold State.NoneWaits; decide, rfl, rfl, rfl, by decide, ⟨rfl, 20, by decide⟩,
    test_zero_line_is_clean⟩, ⟨rfl, rfl, 20, by decide⟩, rfl, rfl, rfl, by decide, by decide, rfl⟩

/-! Bridge Control -/

theorem witness_StartLeavesStandby :
    online.bridge.state ≠ .standby ∧ State.reset.resetLow = false ∧ State.reset.bridge.state = .standby ∧
      State.reset.NoneWaits ∧ State.reset.mem.deferred = [] ∧ State.reset.mem.NextTag 0 :=
  ⟨by decide, rfl, rfl, by unfold State.NoneWaits; decide, rfl, by unfold MemPort.NextTag; decide⟩

/-- A diagnostic operation that waits behind a spare test, a spare test that waits behind a diagnostic operation, and the same
two deferred, with 28 tags in quarantine. -/
theorem witness_StartLeavesStandby_holds :
    let key : Key := .phys 16773440
    let test : TestJob := ⟨5, 0, .waitHold, 0, .bad⟩
    let a : State :=
      { State.reset with
        engine := .testing { test with phase := .write }
        mgmt := { State.reset.mgmt with diag := some ⟨.fetch, 16773440⟩ }
        order := ⟨[⟨key, .engine, true, 0, false⟩, ⟨key, .diag, false, 1, false⟩], 2, 0⟩ }
    let b : State :=
      { a with
        engine := .testing test
        order := ⟨[⟨key, .diag, true, 0, false⟩, ⟨key, .engine, false, 1, false⟩], 2, 0⟩ }
    let c (o : Owner) (k : MemKind) : State :=
      { a with
        order := ⟨[⟨key, o, true, 0, false⟩], 1, 0⟩
        mem := { a.mem with quarantine := (List.finRange 64).drop 36, deferred := [⟨o, k, 16773440⟩] } }
    (a.bridge.state = .standby ∧ a.resetLow = false ∧ a.mem.NextTag 0 ∧ a.mem.deferred = [] ∧
      a.order.entries = [⟨key, .engine, true, 0, false⟩] ++ ⟨key, .diag, false, 1, false⟩ :: [] ∧
      ∀ x ∈ ([⟨key, .engine, true, 0, false⟩] : List Hold) ++ [], x.active = true) ∧
      (b.order.entries = [⟨key, .diag, true, 0, false⟩] ++ ⟨key, .engine, false, 1, false⟩ :: [] ∧
        b.engine = .testing test) ∧
      ((c .diag .mrd).NoneWaits ∧ (c .diag .mrd).mem.deferred = [⟨.diag, .mrd, 16773440⟩] ∧
        (c .diag .mrd).mgmt.diag = some ⟨.fetch, 16773440⟩ ∧ (c .diag .mrd).mem.NextTag 0) ∧
      (c .engine (.mwr zeros)).NoneWaits ∧ (c .engine (.mwr zeros)).mem.deferred = [⟨.engine, .mwr zeros, 16773440⟩] ∧
      (c .engine (.mwr zeros)).engine = .testing { test with phase := .write } ∧ (c .engine (.mwr zeros)).mem.NextTag 0 :=
  ⟨⟨rfl, rfl, by unfold MemPort.NextTag; decide, rfl, rfl, by decide⟩, ⟨rfl, rfl⟩,
    ⟨by unfold State.NoneWaits; decide, rfl, rfl, by unfold MemPort.NextTag; decide⟩,
    by unfold State.NoneWaits; decide, rfl, rfl, by unfold MemPort.NextTag; decide⟩

/-- FORMAT, with the write of a line in flight under memory tag 0. -/
def formatting (n : Nat) : State :=
  let s := flying .format (.mwr zeros) n
  { s with bridge := { s.bridge with state := .format, cursor := some ⟨n, false⟩ } }

/-- The last line and the line before it. -/
theorem witness_FormatWritesEveryLine :
    ((formatting 16777214).bridge.state = .format ∧ (formatting 16777214).bridge.cursor = some ⟨16777214, false⟩ ∧
      (formatting 16777214).Awaits 0 .format (.mwr zeros) 16777214 ∧ 16777214 + 1 ≠ (formatting 16777214).P * 64 ∧
      ((formatting 16777214).answered 0).CanIssue 0) ∧
      (formatting 16777215).Awaits 0 .format (.mwr zeros) 16777215 ∧ 16777215 + 1 = (formatting 16777215).P * 64 :=
  ⟨⟨rfl, rfl, ⟨rfl, 20, by decide⟩, by decide, canIssue_zero _ (by decide) (by decide) (by decide)⟩, ⟨rfl, 20, by decide⟩, by decide⟩

/-- A timeout with 27 tags in quarantine and with 28, and containment. -/
theorem witness_FormatWritesEveryLine_timeout :
    let s (n : Nat) : State := { formatting 7 with mem := { (formatting 7).mem with quarantine := (List.finRange 64).drop n } }
    let c : State := { formatting 7 with bridge := { (formatting 7).bridge with state := .contain } }
    ((s 37).Awaits 0 .format (.mwr zeros) 7 ∧ (s 37).CanIssue 1) ∧
      ((s 36).Awaits 0 .format (.mwr zeros) 7 ∧ 28 ≤ (s 36).mem.quarantine.length) ∧
      c.bridge.state = .contain ∧ c.Awaits 0 .format (.mwr zeros) 7 :=
  ⟨⟨⟨rfl, 20, by decide⟩, by decide, by decide, by decide, by decide⟩, ⟨⟨rfl, 20, by decide⟩, by decide⟩, rfl, rfl, 20,
    by decide⟩

/-- A bridge state with one request of each block waiting. -/
def requested (b : BridgeState) : State :=
  let s := inState b
  { s with bridge := { s.bridge with fromMemory := [⟨.dsStuck, none⟩], fromHandler := [⟨.uePolicy, some 8000⟩] } }

theorem witness_ContainmentEntered :
    (requested .format).resetLow = false ∧ (requested .format).bridge.state = .format ∧
      (requested .online).bridge.fromMemory = ⟨.dsStuck, none⟩ :: [] ∧
      (requested .degraded).bridge.fromHandler = ⟨.uePolicy, some 8000⟩ :: [] ∧ online.ev.queue.length ≤ 62 ∧
      (copying 3 .mrd 1091).engine = .copying (job 3 .read) ∧ (patrolling 9).patrol.visit = none := by decide

theorem witness_WaitingRequestFailsAtContainment :
    let s := queued
    let op : HostOp := ⟨4, .rd, 5000, none, .waitHold, 0, false, false⟩
    let e : Hold := ⟨.host 5000, .host 4, false, 1, false⟩
    let pre : List Hold := [⟨.host 5000, .host 3, true, 0, false⟩]
    s.resetLow = false ∧ (s.bridge.state = .online ∨ s.bridge.state = .degraded) ∧ s.mem.deferred = [] ∧
      s.order.entries = pre ++ e :: [] ∧ e.active = false ∧ e.owner = .host op.tag ∧
      (∀ x ∈ pre ++ [], x.active = true ∧ x.owner ≠ .host op.tag) ∧ s.opOf op.tag = some op ∧ op.orphan = false := by decide

/-- A visit, a copy step, a spare test and a diagnostic operation that wait. -/
theorem witness_WaitingRequestFailsAtContainment_others :
    let pre : List Hold := [⟨.host 5000, .host 3, true, 0, false⟩]
    (∀ o ∈ ([.patrol, .engine, .diag] : List Owner),
      (followed o).resetLow = false ∧ (followed o).bridge.state = .online ∧ (followed o).mem.deferred = [] ∧
        (followed o).order.entries = pre ++ ⟨.host 5000, o, false, 1, false⟩ :: [] ∧
        ∀ x ∈ pre ++ [], x.active = true ∧ x.owner ≠ o) ∧
      ({ followed .engine with engine := .copying (job 3 .waitHold) } : State).engine = .copying (job 3 .waitHold) ∧
      ({ followed .engine with engine := .testing ⟨5, 0, .waitHold, 0, .bad⟩ } : State).engine =
        .testing ⟨5, 0, .waitHold, 0, .bad⟩ ∧ online.ev.queue.length ≤ 61 := by
  refine ⟨?_, rfl, rfl, by decide⟩
  intro o ho
  fin_cases ho <;> exact ⟨rfl, rfl, rfl, rfl, by decide⟩

theorem witness_LaterCauseCounted :
    (requested .contain).resetLow = false ∧ (requested .contain).bridge.state = .contain ∧
      (requested .contain).bridge.fromMemory = ⟨.dsStuck, none⟩ :: [] ∧
      (requested .contain).bridge.fromHandler = ⟨.uePolicy, some 8000⟩ :: [] ∧
      (requested .standby).bridge.state = .standby ∧ (requested .standby).bridge.fromMemory = ⟨.dsStuck, none⟩ :: [] := by
  decide

theorem witness_SoftResetLeaves : online.resetLow = false ∧ (testing .standby 3 1 .mrd).resetLow = false := by decide

/-- R185: held, with a command that is no edge of RESET_N. -/
theorem witness_HardResetValues :
    (after (.hardReset .fall ⟨false, false⟩) online).resetLow = true ∧ ∀ edge straps, Instr.status ≠ .hardReset edge straps := ⟨rfl, by simp⟩

theorem witness_ContainmentHolds :
    (inState .contain).bridge.state = .contain ∧ (∀ straps, Instr.startKeep ≠ .hardReset .rise straps) ∧
      Instr.startKeep ≠ .softReset ∧ exec .startKeep (inState .contain) = .next (after .startKeep (inState .contain)) :=
  ⟨rfl, by simp, by simp, rfl⟩

/-- The pulse lengths of R185, and the states of the port. -/
theorem witness_LinkResetOrphans :
    online.resetLow = false ∧ (9 < 10 ∧ 100 ≤ 100) ∧ ({ online with link := ⟨true, []⟩ } : State).link.quiesce = true ∧
      (let s := serving (hostOp .rd .read 1) .mrd
       s.link.quiesce = false ∧ (∀ e ∈ s.order.entries, e.active = true) ∧
         s.ops.filter (fun o => o.phase ≠ .waitHold) ≠ []) ∧
      (let s := holding online (.phys 9) .diag
       s.link.quiesce = false ∧ (∀ e ∈ s.order.entries, e.active = true) ∧ s.ops = []) := by decide

/-- A WAITING host operation behind another hold; the only ones of their key; beside a visit that is held back with it. -/
theorem witness_LinkResetOrphans_dropped :
    (∃ x ∈ queued.order.entries, x.key = .host 5000 ∧ x.active = true) ∧
      (let d := holding online (.phys 5000) .diag
       let s : State := { d with order := d.order.append (.host 5000) (.host 4) false }
       ∀ x ∈ s.order.entries, x.key = .host 5000 → x.active = false ∧ ∃ n, x.owner = .host n) ∧
      (let d := holding online (.phys 5000) .diag
       let u : State := { d with order := d.order.append (.host 5000) (.host 4) false }
       let s : State := { u with order := u.order.append (.host 5000) .patrol false }
       ∃ y ∈ s.order.entries, (∀ n, y.owner ≠ .host n) ∧
         y.key = .phys 5000 ∧ ∀ x ∈ s.order.entries, x.key = .host 5000 → 5000 ∈ s.touches x) := by
  refine ⟨by decide, by decide, ⟨.phys 5000, .diag, true, 0, false⟩, by decide, by simp, rfl, by decide⟩

/-! Events -/

/-- An Event Unit with a full queue and one lost event, ALERT_N low. -/
def fullUnit : EventUnit := ⟨(List.range 64).map fun i => ⟨BitVec.ofNat 16 i, 0, .formatDone⟩, 64, 1, true, Counters.zero⟩

theorem witness_EventLoggedAndPopped :
    online.resetLow = false ∧ online.ev.queue.length < 64 ∧ 64 ≤ fullUnit.queue.length ∧ online.ev.queue = [] ∧
      fullUnit.queue = ⟨0, 0, .formatDone⟩ :: fullUnit.queue.tail := by decide

theorem witness_EventAndAlertLawsKept :
    ({ online with ev := fullUnit } : State).ev.law ∧ AlertLaw { online with ev := fullUnit } ∧
      exec .eventPop { online with ev := fullUnit } = .next (after .eventPop { online with ev := fullUnit }) :=
  ⟨⟨by decide, by decide +kernel, by decide, by decide⟩, by unfold AlertLaw; decide, rfl⟩

/-! Memory Port -/

/-- The fault that reaches DS_FAULT_LIMIT, with the quarantine at 27 tags; `contained_meets` gives CONTAIN. -/
theorem witness_HostTimeoutQuarantines :
    let op := hostOp (.wr Data.zero) .dataWrite 0
    let s : State :=
      let s := serving op (.mwr zeros)
      { s with mem := { s.mem with faults := 3, quarantine := (List.finRange 64).drop 37 } }
    (s.bridge.state = .online ∨ s.bridge.state = .degraded) ∧ s.NoneWaits ∧ s.opOf op.tag = some op ∧
      op.phase ≠ .waitHold ∧ s.Awaits 0 (.host op.tag) (.mwr zeros) 5000 ∧ s.mgmt.params.dsFaultLimit ≤ s.mem.faults + 1 ∧
      s.mem.quarantine.length = 27 :=
  ⟨.inl rfl, by unfold State.NoneWaits; decide, by decide, by decide, ⟨rfl, 20, by decide⟩, by decide, by decide⟩

/-- Below DS_FAULT_LIMIT 4, with the step's second and third timeout, and the quarantine at 26 tags. -/
theorem witness_CopyTimeoutRetriesOrStalls :
    let s (n : Nat) : State :=
      let s := copying 3 .mrd 1091
      { s with
        engine := .copying { job 3 .read with timeouts := n }
        mem := { s.mem with faults := 2, quarantine := (List.finRange 64).drop 38 } }
    ((s 1).bridge.state = .online ∨ (s 1).bridge.state = .degraded) ∧ (s 1).NoneWaits ∧
      (s 1).engine = .copying { job 3 .read with timeouts := 1 } ∧ (s 1).Awaits 0 .engine .mrd 1091 ∧ (s 1).CanIssue 1 ∧
      (s 1).mem.faults + 1 < (s 1).mgmt.params.dsFaultLimit ∧ (s 1).mem.quarantine.length < 27 ∧ (s 1).mem.faults < 255 ∧
      (s 2).NoneWaits ∧ (s 2).Awaits 0 .engine .mrd 1091 ∧ (s 2).CanIssue 1 :=
  ⟨.inl rfl, by unfold State.NoneWaits; decide, rfl, ⟨rfl, 20, by decide⟩, ⟨by decide, by decide, by decide, by decide⟩,
    by decide, by decide, by decide, by unfold State.NoneWaits; decide, ⟨rfl, 20, by decide⟩,
    ⟨by decide, by decide, by decide, by decide⟩⟩

/-- An unquarantined tag; another generation; the answer that brings the quarantine from 28 to 27 with a request deferred. -/
theorem witness_LateAnswerDiscarded :
    online.resetLow = false ∧
      (∀ a ∈ online.mem.active, a.tag = 5 → (7 : Byte) ≠ online.mem.generation ∨ a.kind ≠ .mrd) ∧
      (∀ a ∈ (flying .patrol .mrd 9).mem.active, a.tag = 0 →
        (0 : Byte) ≠ (flying .patrol .mrd 9).mem.generation ∨ a.kind = .mrd) ∧
      (let s : State := { online with mem := ⟨[], (List.finRange 64).take 28, 0, 3, [⟨.patrol, .mrd, 9⟩]⟩ }
       s.resetLow = false ∧ (0 : Byte) = s.mem.generation ∧ (5 : Fin 64) ∈ s.mem.quarantine ∧ s.mem.quarantine.Nodup ∧
         s.mem.quarantine.length = 28 ∧ s.mem.deferred = [⟨.patrol, .mrd, 9⟩] ∧
         ({ s with mem := { s.mem with quarantine := s.mem.quarantine.filter fun x => x ≠ 5 } } : State).CanIssue 5 ∧
         (∀ a ∈ s.mem.active, a.tag = 5 → (0 : Byte) ≠ s.mem.generation ∨ a.kind ≠ .mrd)) :=
  ⟨rfl, by decide, by decide, rfl, rfl, by decide, by decide, by decide, rfl,
    ⟨by decide, by decide, by decide, by decide⟩, by decide⟩

theorem witness_TagLawKept :
    TagLaw { flying .patrol .mrd 9 with mem := { (flying .patrol .mrd 9).mem with quarantine := [1, 2] } } ∧
      exec (.memoryTimeout 0) (flying .patrol .mrd 9) = .next (after (.memoryTimeout 0) (flying .patrol .mrd 9)) :=
  ⟨by unfold TagLaw; decide, rfl⟩

/-! Management Port -/

/-- The identifiers at both ends, values at both ends of a range, the geometry checks, with a spare test running and without. -/
theorem witness_ConfigSetStores :
    ((0 : Byte).toNat = 0 ∧ 11 < (12 : Byte).toNat ∧ 3 ≤ (3 : Byte).toNat ∧ (11 : Byte).toNat ≤ 11) ∧
      (¬ (1 ≤ (256 : BitVec 32).toNat ∧ (256 : BitVec 32).toNat ≤ 255)) ∧
      (1 ≤ (64 : BitVec 32).toNat ∧ (64 : BitVec 32).toNat ≤ 64) ∧ online.bridge.state ≠ .standby ∧
      (State.reset.resetLow = false ∧ State.reset.bridge.state = .standby ∧ State.reset.map = [] ∧
        State.reset.mgmt.diag = none ∧ State.reset.engine = .idle ∧ 64 ≤ (65 : BitVec 32).toNat ∧
        (65 : BitVec 32).toNat ≤ 4194304) ∧
      (let s := testing .standby 3 1 .mrd
       s.resetLow = false ∧ s.bridge.state = .standby ∧ s.map = [] ∧ s.mgmt.diag = none ∧
         s.engine = .testing ⟨5, 3, .read, 1, .bad⟩) ∧
      (let p := Params.default.set 1 65
       p.spareCount < p.memRegions) ∧
      (let p := Params.default.set 1 64
       p.memRegions ≤ p.spareCount) := by decide

/-- The last physical line, of a FREE spare; a line under copy; the first line beyond the array. -/
theorem witness_DiagnosticsAccepted :
    (let p := (16777215 : BitVec 32).toNat
     online.resetLow = false ∧ online.bridge.state ≠ .format ∧ online.bridge.state ≠ .contain ∧ online.mgmt.diag = none ∧
       p < online.P * 64 ∧
       online.relation (p / 64) = .unused ∧ servedBy online.V online.map p = none ∧ online.V ≤ p / 64 ∧
       p / 64 - online.V < online.S ∧ online.spares[p / 64 - online.V]? = some .free) ∧
      online.KeyFree (.phys 16777215) ∧ online.CanIssue 0 ∧
      online.P * 64 ≤ (16777216 : BitVec 32).toNat ∧
      (copying 3 .mrd 1091).relation ((1091 : BitVec 32).toNat / 64) = .inCopy 17 true ∧
      ((0x02 : Byte) ≠ 0x00 ∧ (0x02 : Byte) ≠ 0x01) ∧
      (let s : State := { State.reset with mgmt := { State.reset.mgmt with view := ⟨zeros, 9, .clean, true⟩ } }
       s.resetLow = false ∧ s.mgmt.view.valid = true ∧ s.bridge.state = .standby ∧ servedBy s.V s.map 9 = some 9 ∧
         s.KeyFree (.host 9) ∧ s.KeyFree (.phys (translate s.V s.map 9)) ∧ s.CanIssue 0) :=
  ⟨by decide, by unfold State.KeyFree; decide, canIssue_zero _ (by decide) (by decide) (by decide), by decide, by decide,
    by decide, rfl, rfl, rfl, by decide, by unfold State.KeyFree; decide, by unfold State.KeyFree; decide,
    canIssue_zero _ (by decide) (by decide) (by decide)⟩

/-- A bridge state with a diagnostic operation on line 9 awaiting an answer under memory tag 0. -/
def fetching (b : BridgeState) (kind : DiagKind) (k : MemKind) : State :=
  let s := flying .diag k 9
  holding { s with bridge := { s.bridge with state := b }, mgmt := { s.mgmt with diag := some ⟨kind, 9⟩ } } (.host 9) .diag

theorem witness_DiagnosticsEnd :
    (let s := fetching .contain .fetch .mrd
     s.bridge.state ≠ .format ∧ s.bridge.state = .contain ∧ s.mgmt.diag = some ⟨.fetch, 9⟩ ∧ s.Awaits 0 .diag .mrd 9) ∧
      (let s := fetching .online .storeCode (.mwr zeros)
       s.bridge.state ≠ .format ∧ s.NoneWaits ∧ s.mgmt.diag = some ⟨.storeCode, 9⟩ ∧ DiagKind.storeCode ≠ .fetch ∧
         s.Awaits 0 .diag (.mwr zeros) 9) ∧
      (let s := fetching .format .fetch .mrd
       s.bridge.state = .format ∧ s.NoneWaits ∧ s.Awaits 0 .diag .mrd 9 ∧ (s.answered 0).mem.NextTag 0 ∧
         s.mem.NextTag 1) ∧
      (let s := fetching .format .storeCode (.mwr zeros)
       s.NoneWaits ∧ s.Awaits 0 .diag (.mwr zeros) 9 ∧ (s.answered 0).mem.NextTag 0) :=
  ⟨⟨by decide, rfl, rfl, rfl, 20, by decide⟩,
    ⟨by decide, by unfold State.NoneWaits; decide, rfl, by decide, rfl, 20, by decide⟩,
    ⟨rfl, by unfold State.NoneWaits; decide, ⟨rfl, 20, by decide⟩, by unfold MemPort.NextTag; decide,
      by unfold MemPort.NextTag; decide⟩,
    by unfold State.NoneWaits; decide, ⟨rfl, 20, by decide⟩, by unfold MemPort.NextTag; decide⟩

/-- At entry into CONTAIN: a diagnostic operation that waits, and one that is deferred. -/
theorem witness_DiagnosticsEnd_containment :
    (let s : State := { followed .diag with mgmt := { online.mgmt with diag := some ⟨.fetch, 5000⟩ } }
     s.resetLow = false ∧ s.bridge.state = .online ∧ s.mgmt.diag = some ⟨.fetch, 5000⟩ ∧
       (∃ e ∈ s.order.entries, e.owner = .diag ∧ e.active = false) ∧ ∀ r ∈ s.mem.deferred, r.owner ≠ .diag) ∧
      (let s : State :=
        { fetching .online .fetch .mrd with
          mem := ⟨[], (List.finRange 64).drop 36, 0, 0, [⟨.diag, .mrd, 9⟩]⟩ }
       s.resetLow = false ∧ s.mgmt.diag = some ⟨.fetch, 9⟩ ∧
         (∀ e ∈ s.order.entries, e.owner = .diag → e.active = true) ∧ ∃ r ∈ s.mem.deferred, r.owner = .diag) := by decide

theorem repairLaw_copying : RepairLaw (copying 63 (.mwr zeros) 16773183) := by
  refine ⟨⟨by decide, ?_, by decide, by decide⟩, ⟨by decide, by decide, ?_⟩, ?_, ?_, ?_⟩
  · intro e he
    simp only [copying, holding, List.mem_singleton] at he
    subst he
    simp [MapEntry.law, copyEntry, copying, holding, flying, online, inState, State.reset, State.V, State.S, State.P,
      Params.default]
  · intro i hi
    have : (copying 63 (.mwr zeros) 16773183).spares[i]? ≠ some .testing := by
      revert i; decide
    constructor
    · intro h; exact absurd h this
    · intro h; cases h
  · exact ⟨by decide, by decide, by decide⟩
  · exact ⟨copyEntry 63, by decide⟩
  · intro h; cases h

/-! The laws together -/

theorem controlLaw_copying : ControlLaw (copying 63 (.mwr zeros) 16773183) := by
  refine ⟨by unfold Params.law; decide, ?_, by unfold Patrol.law; decide⟩
  refine ⟨by decide, ?_, by decide, ?_⟩
  · intro r hr; cases hr
  · intro k hk; cases hk

theorem witness_ControlLawKept :
    ControlLaw (copying 63 (.mwr zeros) 16773183) ∧
      exec (.writeAck 0 0) (copying 63 (.mwr zeros) 16773183) =
        .next (after (.writeAck 0 0) (copying 63 (.mwr zeros) 16773183)) := ⟨controlLaw_copying, rfl⟩

theorem witness_RepairLawKept :
    let s := copying 63 (.mwr zeros) 16773183
    ControlLaw s ∧ RepairLaw s ∧ exec (.writeAck 0 0) s = .next (after (.writeAck 0 0) s) :=
  ⟨controlLaw_copying, repairLaw_copying, rfl⟩

/-- The job of region 17 completes: its entry is REQUESTED, and its removal notice waits in the next state. -/
theorem witness_SuspectLawKept_requested :
    let s : State := { copying 63 (.mwr zeros) 16773183 with suspects := [suspect 17 8 0 .requested] }
    SuspectLaw s ∧ ControlLaw s ∧ RepairLaw s ∧ RequestedLaw s ∧
      exec (.writeAck 0 0) s = .next (after (.writeAck 0 0) s) := by
  refine ⟨by unfold SuspectLaw; decide, controlLaw_copying, repairLaw_copying, ⟨by decide, ?_⟩, rfl⟩
  intro e he _
  rw [List.mem_singleton] at he
  subst he
  exact .inr (.inl ⟨copyEntry 63, by decide, rfl⟩)

end Sys2Proof.Tests
end

section
/-! The code (chapter 1): the distance as a count of altered symbols, the members of the code near a codeword (R8), and the
classification as the table of R9 gives it. -/

namespace Sys2Proof.Proofs

open Sys2Proof Sys2Proof.Machine

/-! ### The distance as a count of symbol positions -/

/-- The symbol positions, 0..71, in which two codewords differ. -/
def alteredSymbols (a b : Codeword) : Finset Nat := {k ∈ Finset.range 72 | symbolAt a k ≠ symbolAt b k}

theorem mem_alteredSymbols {a b : Codeword} {k : Nat} :
    k ∈ alteredSymbols a b ↔ k < 72 ∧ symbolAt a k ≠ symbolAt b k := by
  simp [alteredSymbols]

theorem symbolAt_data (w : Codeword) (i : Fin 64) : symbolAt w i = w.data[i] := by
  simp [symbolAt]

theorem symbolAt_check (w : Codeword) (j : Fin 8) : symbolAt w (64 + j) = w.check[j] := by
  simp [symbolAt]

theorem countP_finRange_eq_count (p : Nat → Prop) [DecidablePred p] (n : Nat) :
    (List.finRange n).countP (fun i : Fin n => decide (p i)) = Nat.count p n := by
  rw [Nat.count, ← List.map_coe_finRange_eq_range, List.countP_map]
  rfl

theorem dist_eq_card (a b : Codeword) : a.dist b = (alteredSymbols a b).card := by
  rw [alteredSymbols, ← Nat.count_eq_card_filter_range, Nat.count_add _ 64 8,
    ← countP_finRange_eq_count, ← countP_finRange_eq_count]
  simp only [symbolAt_data, symbolAt_check, Codeword.dist]

/-- Two codewords with the same 72 symbols are equal (R5). -/
theorem eq_of_symbolAt {a b : Codeword} (h : ∀ k < 72, symbolAt a k = symbolAt b k) : a = b := by
  have hd : a.data = b.data := by
    ext1 i hi
    simpa [symbolAt, hi] using h i (by omega)
  have hc : a.check = b.check := by
    ext1 j hj
    simpa [symbolAt, hj] using h (64 + j) (by omega)
  cases a; cases b; simp_all

theorem dist_eq_zero_iff {a b : Codeword} : a.dist b = 0 ↔ a = b := by
  refine ⟨fun h => eq_of_symbolAt fun k hk => ?_, fun h => h ▸ Codeword.dist_self a⟩
  rw [dist_eq_card, Finset.card_eq_zero] at h
  by_contra hne
  simpa [h] using mem_alteredSymbols.mpr ⟨hk, hne⟩

theorem exists_altered_of_dist_one {a b : Codeword} (h : a.dist b = 1) :
    ∃ k < 72, symbolAt a k ≠ symbolAt b k := by
  rw [dist_eq_card] at h
  obtain ⟨k, hk⟩ := Finset.card_pos.mp (by omega : 0 < (alteredSymbols a b).card)
  exact ⟨k, mem_alteredSymbols.mp hk⟩

/-- Codewords at distance 0 or 1 differ in at most one position. -/
theorem altered_unique {a b : Codeword} (h : a.dist b ≤ 1) {i k : Nat} (hi : i < 72) (hk : k < 72)
    (hia : symbolAt a i ≠ symbolAt b i) (hka : symbolAt a k ≠ symbolAt b k) : i = k := by
  rw [dist_eq_card] at h
  exact Finset.card_le_one.mp h i (mem_alteredSymbols.mpr ⟨hi, hia⟩) k (mem_alteredSymbols.mpr ⟨hk, hka⟩)

theorem symbolAt_setSymbol (w : Codeword) {k : Nat} (hk : k < 72) (v : Byte) (i : Nat) :
    symbolAt (setSymbol w k v) i = if i = k then v else symbolAt w i := by
  unfold setSymbol
  split
  · next h =>
    by_cases hik : i = k
    · simp [symbolAt, hik, h]
    · simp [symbolAt, hik, Ne.symm hik]
  · next h =>
    rw [dif_pos (by omega)]
    by_cases hik : i = k
    · simp [symbolAt, hik, h, show k - 64 < 8 by omega]
    · by_cases hi : i < 64
      · simp [symbolAt, hik, hi]
      · simp [symbolAt, hik, hi, Vector.getElem_set_ne, show k - 64 ≠ i - 64 by omega]

/-- Replacing the one altered symbol restores the codeword. -/
theorem setSymbol_altered {w v : Codeword} (h : w.dist v ≤ 1) {k : Nat} (hk : k < 72)
    (hne : symbolAt w k ≠ symbolAt v k) : setSymbol w k (symbolAt v k) = v := by
  refine eq_of_symbolAt fun i hi => ?_
  rw [symbolAt_setSymbol w hk]
  split
  · next hik => rw [hik]
  · next hik =>
    by_contra ha
    exact hik (altered_unique h hi hk ha hne)

/-! ### The members of the code -/

theorem isValid_iff_exists {w : Codeword} : isValid w = true ↔ ∃ d, w = encode d := by
  simp only [isValid, decide_eq_true_eq]
  exact ⟨fun h => ⟨_, h⟩, by rintro ⟨d, rfl⟩; rfl⟩

theorem isPoisonMarked_iff_exists {w : Codeword} : isPoisonMarked w = true ↔ ∃ d, w = poisonMark d := by
  simp only [isPoisonMarked, decide_eq_true_eq]
  exact ⟨fun h => ⟨_, h⟩, by rintro ⟨d, rfl⟩; rfl⟩

/-- The set of R8: all valid and all poison-marked codewords. -/
def IsMember (w : Codeword) : Prop := (∃ d, w = encode d) ∨ ∃ d, w = poisonMark d

theorem isMember_encode (d : Data) : IsMember (encode d) := .inl ⟨d, rfl⟩

theorem isMember_poisonMark (d : Data) : IsMember (poisonMark d) := .inr ⟨d, rfl⟩

theorem isMember_iff_codeMember {w : Codeword} : IsMember w ↔ CodeMember Config.code.check.val w := by
  rw [codeMember_iff, isValid_iff_exists, isPoisonMarked_iff_exists, IsMember]

theorem four_le_dist_of_members {a b : Codeword} (ha : IsMember a) (hb : IsMember b) (hab : a ≠ b) : 4 ≤ a.dist b :=
  Config.code.check.property.2 a b (isMember_iff_codeMember.mp ha) (isMember_iff_codeMember.mp hb) hab

/-- The balls around two members of the code are disjoint while their radii add up to at most 3. -/
theorem member_unique {w a b : Codeword} (ha : IsMember a) (hb : IsMember b) (h : w.dist a + w.dist b ≤ 3) : a = b := by
  by_contra hab
  have far := four_le_dist_of_members ha hb hab
  have via := Codeword.dist_triangle a w b
  rw [Codeword.dist_comm a w] at via
  omega

theorem two_le_dist_of_dist_two {w a b : Codeword} (ha : IsMember a) (hb : IsMember b) (h : w.dist a = 2) :
    2 ≤ w.dist b := by
  by_contra hlt
  have hab : a = b := member_unique (w := w) ha hb (by omega)
  rw [hab] at h
  omega

theorem encode_injective {d d' : Data} (h : encode d = encode d') : d = d' := congrArg Codeword.data h

theorem foldPattern_ne (cs : CheckSymbols) : cs ≠ foldPattern cs := by
  intro h
  have h0 : cs[0] = cs[0] ^^^ poisonPattern[0] := by
    conv_lhs => rw [h]
    simp [foldPattern]
  have hz : poisonPattern[0] = 0#8 := by simpa using h0.symm
  exact poison_nonzero 0 hz

theorem encode_ne_poisonMark (d d' : Data) : encode d ≠ poisonMark d' := by
  intro h
  obtain rfl : d = d' := congrArg Codeword.data h
  exact foldPattern_ne _ (congrArg Codeword.check h)

/-- A codeword within distance 1 of a poison-marked codeword is not within distance 1 of a valid one. -/
theorem one_lt_dist_encode {w : Codeword} {d : Data} (h : w.dist (poisonMark d) ≤ 1) (d' : Data) :
    1 < w.dist (encode d') := by
  by_contra hle
  exact encode_ne_poisonMark d' d (member_unique (w := w) (isMember_encode d') (isMember_poisonMark d) (by omega))

/-! ### The tests and searches of the classification by distance -/

theorem isValid_iff_dist {w : Codeword} : isValid w = true ↔ ∃ d, w.dist (encode d) = 0 := by
  simp only [isValid_iff_exists, dist_eq_zero_iff]

theorem isPoisonMarked_iff_dist {w : Codeword} : isPoisonMarked w = true ↔ ∃ d, w.dist (poisonMark d) = 0 := by
  simp only [isPoisonMarked_iff_exists, dist_eq_zero_iff]

theorem correction_eq_some_iff {w v : Codeword} {k : Nat} : correction w = some (k, v) ↔
    k < 72 ∧ (∃ d, v = encode d) ∧ w.dist v = 1 ∧ symbolAt w k ≠ symbolAt v k := by
  have sound : ∀ {i : Nat} {u : Codeword}, correction w = some (i, u) →
      i < 72 ∧ (∃ d, u = encode d) ∧ w.dist u = 1 ∧ symbolAt w i ≠ symbolAt u i := by
    intro i u h
    obtain ⟨hi, b, hb, hu, hvalid⟩ := correction_some h
    have hne : symbolAt w i ≠ symbolAt u i := by rw [hu, symbolAt_setSymbol w hi, if_pos rfl]; exact hb.symm
    have hle : w.dist u ≤ 1 := hu ▸ dist_setSymbol_le w i b
    have hpos : w.dist u ≠ 0 := fun h0 => hne (by rw [dist_eq_zero_iff.mp h0])
    exact ⟨hi, isValid_iff_exists.mp hvalid, by omega, hne⟩
  refine ⟨sound, fun ⟨hk, hv, hdist, hne⟩ => ?_⟩
  cases hc : correction w with
  | none =>
    have hnot := (correction_none w).mp hc k hk (symbolAt v k) hne.symm
    rw [setSymbol_altered hdist.le hk hne, isValid_iff_exists.mpr hv] at hnot
    cases hnot
  | some found =>
    obtain ⟨hi, hu, hdist', hne'⟩ := sound hc
    have huv : found.2 = v := member_unique (w := w) (.inl hu) (.inl hv) (by omega)
    rw [huv] at hne'
    have hik : found.1 = k := altered_unique hdist.le hi hk hne' hne
    rw [← hik, ← huv]

theorem correction_eq_none_iff {w : Codeword} : correction w = none ↔ ∀ d, w.dist (encode d) ≠ 1 := by
  constructor
  · intro hc d hd
    obtain ⟨k, hk, hne⟩ := exists_altered_of_dist_one hd
    rw [correction_eq_some_iff.mpr ⟨hk, ⟨d, rfl⟩, hd, hne⟩] at hc
    cases hc
  · intro h
    cases hc : correction w with
    | none => rfl
    | some found =>
      obtain ⟨-, ⟨d, hd⟩, hdist, -⟩ := correction_eq_some_iff.mp hc
      exact absurd (hd ▸ hdist) (h d)

theorem nearPoison_iff_dist {w : Codeword} : nearPoison w = true ↔ ∃ d, w.dist (poisonMark d) ≤ 1 := by
  simp only [nearPoison_iff, isPoisonMarked_iff_exists]
  constructor
  · rintro (⟨d, rfl⟩ | ⟨k, -, b, d, hd⟩)
    · exact ⟨d, by simp [Codeword.dist_self]⟩
    · exact ⟨d, hd ▸ dist_setSymbol_le w k b⟩
  · rintro ⟨d, hd⟩
    by_cases h1 : w.dist (poisonMark d) = 1
    · obtain ⟨k, hk, hne⟩ := exists_altered_of_dist_one h1
      exact .inr ⟨k, hk, _, d, setSymbol_altered hd hk hne⟩
    · exact .inl ⟨d, dist_eq_zero_iff.mp (by omega)⟩

/-! ### The classification table -/

/-- The condition that the table of R9 states for a result, with what R10 says the result yields. -/
def MeetsRow (w : Codeword) : ReadResult → Prop
  | .clean d => w = encode d
  | .corrected k v => k < 72 ∧ (∃ d, v = encode d) ∧ w.dist v = 1 ∧ symbolAt w k ≠ symbolAt v k
  | .poison => ∃ d, w.dist (poisonMark d) ≤ 1
  | .uncorrectable => ∀ d, 1 < w.dist (encode d) ∧ 1 < w.dist (poisonMark d)

/-- Every codeword meets the condition of some row (R9). -/
theorem exists_meetsRow (w : Codeword) : ∃ r, MeetsRow w r := by
  by_cases hvalid : ∃ d, w = encode d
  · obtain ⟨d, hd⟩ := hvalid
    exact ⟨.clean d, hd⟩
  by_cases hpoison : ∃ d, w.dist (poisonMark d) ≤ 1
  · exact ⟨.poison, hpoison⟩
  cases hc : correction w with
  | some found => exact ⟨.corrected found.1 found.2, correction_eq_some_iff.mp hc⟩
  | none =>
    refine ⟨.uncorrectable, fun d => ?_⟩
    have hne : w.dist (encode d) ≠ 0 := fun h => hvalid ⟨d, dist_eq_zero_iff.mp h⟩
    have hne' : w.dist (encode d) ≠ 1 := correction_eq_none_iff.mp hc d
    have hfar : ¬ w.dist (poisonMark d) ≤ 1 := fun h => hpoison ⟨d, h⟩
    omega

theorem classify_encode (d : Data) : classify (encode d) = .clean d := by
  rw [classify, if_pos (isValid_iff_exists.mpr ⟨d, rfl⟩), encode]

theorem classify_of_correction {w v : Codeword} {k : Nat} (h : correction w = some (k, v)) :
    classify w = .corrected k v := by
  obtain ⟨-, ⟨d, rfl⟩, hdist, -⟩ := correction_eq_some_iff.mp h
  have hvalid : ¬ isValid w := fun hv => by
    obtain ⟨d', hd'⟩ := isValid_iff_dist.mp hv
    have heq : encode d' = encode d :=
      member_unique (w := w) (isMember_encode d') (isMember_encode d) (by omega)
    rw [heq] at hd'
    omega
  have hmarked : ¬ isPoisonMarked w := fun hp => by
    obtain ⟨d', hd'⟩ := isPoisonMarked_iff_dist.mp hp
    have := one_lt_dist_encode hd'.le.step d
    omega
  rw [classify, if_neg hvalid, if_neg hmarked, h]

theorem classify_of_near_poison {w : Codeword} {d : Data} (h : w.dist (poisonMark d) ≤ 1) : classify w = .poison := by
  have hvalid : ¬ isValid w := fun hv => by
    obtain ⟨d', hd'⟩ := isValid_iff_dist.mp hv
    have := one_lt_dist_encode h d'
    omega
  have hnone : correction w = none := correction_eq_none_iff.mpr fun d' => (one_lt_dist_encode h d').ne'
  rw [classify, if_neg hvalid, hnone, if_pos (nearPoison_iff_dist.mpr ⟨d, h⟩), ite_self]

theorem classify_of_far {w : Codeword} (h : ∀ d, 1 < w.dist (encode d) ∧ 1 < w.dist (poisonMark d)) :
    classify w = .uncorrectable := by
  have hvalid : ¬ isValid w := fun hv => by
    obtain ⟨d, hd⟩ := isValid_iff_dist.mp hv
    have := (h d).1
    omega
  have hnear : ¬ nearPoison w := fun hp => by
    obtain ⟨d, hd⟩ := nearPoison_iff_dist.mp hp
    exact absurd hd (h d).2.not_ge
  have hmarked : ¬ isPoisonMarked w := fun hp => hnear ((nearPoison_iff w).mpr (.inl hp))
  have hnone : correction w = none := correction_eq_none_iff.mpr fun d => (h d).1.ne'
  rw [classify, if_neg hvalid, if_neg hmarked, hnone, if_neg hnear]

theorem classify_of_meetsRow {w : Codeword} {r : ReadResult} (h : MeetsRow w r) : classify w = r := by
  cases r with
  | clean d => rw [show w = encode d from h, classify_encode]
  | corrected k v => exact classify_of_correction (correction_eq_some_iff.mpr h)
  | poison => exact h.elim fun _ hd => classify_of_near_poison hd
  | uncorrectable => exact classify_of_far h

/-- The outcome is decided by the table's conditions alone (R9, R10). -/
theorem classify_eq_iff {w : Codeword} {r : ReadResult} : classify w = r ↔ MeetsRow w r := by
  refine ⟨fun h => ?_, classify_of_meetsRow⟩
  obtain ⟨r', hr'⟩ := exists_meetsRow w
  rwa [← h, classify_of_meetsRow hr']

theorem classify_of_dist_two {w m : Codeword} (hm : IsMember m) (h : m.dist w = 2) : classify w = .uncorrectable := by
  rw [Codeword.dist_comm] at h
  exact classify_of_far fun d =>
    ⟨two_le_dist_of_dist_two hm (isMember_encode d) h, two_le_dist_of_dist_two hm (isMember_poisonMark d) h⟩

/-! ### The obligations -/

/-- Settles O6: every consequence of R8 follows from the law of the check function and the triangle inequality. -/
theorem codeDistance : Obligations.CodeDistance := by
  refine ⟨fun a b => four_le_dist_of_members, fun w a b ha hb hab hwa => ?_, fun w a b => two_le_dist_of_dist_two,
    fun d d' => encode_injective, encode_ne_poisonMark⟩
  by_contra hlt
  exact hab (member_unique (w := w) ha hb (by omega))

/-- Settles O7: each row of the table is `classify_eq_iff` at that row's result. -/
theorem classificationTable : Obligations.ClassificationTable := fun _ =>
  ⟨fun _ => classify_eq_iff, fun _ _ => classify_eq_iff, classify_eq_iff, classify_eq_iff⟩

/-- Settles O5: the row of R9 that each number of altered symbols leads to. -/
theorem codewordGuarantee : Obligations.CodewordGuarantee := by
  intro d w
  refine ⟨fun h => ?_, fun h => ?_, classify_of_dist_two (isMember_encode d), fun h => ?_, fun h => ?_,
    classify_of_dist_two (isMember_poisonMark d)⟩
  · rw [← dist_eq_zero_iff.mp h, classify_encode]
  · rw [Codeword.dist_comm] at h
    obtain ⟨k, hk, hne⟩ := exists_altered_of_dist_one h
    exact ⟨k, hk, hne, classify_eq_iff.mpr ⟨hk, ⟨d, rfl⟩, h, hne⟩⟩
  · exact classify_of_near_poison (d := d) (by rw [Codeword.dist_comm, h]; omega)
  · exact classify_of_near_poison (d := d) (by rw [Codeword.dist_comm, h])

end Sys2Proof.Proofs
end

section
/-! The map and translation (chapter 2): where ascending order puts an entry in the Repair Map (R16), and the command that
loads one (R28). -/

namespace Sys2Proof.Proofs

open Sys2Proof Sys2Proof.Machine

/-! ### The map in ascending order of host region -/

/-- The map is in ascending order of host region (R16). -/
def Ascending (map : List MapEntry) : Prop := map.Pairwise fun a b => a.region < b.region

/-- The position that ascending order gives host region `r`: the number of entries below it. -/
def rank (map : List MapEntry) (r : Nat) : Nat := map.countP fun e => e.region < r

theorem findEntry_isSome_iff {map : List MapEntry} {r : Nat} :
    (findEntry map r).isSome ↔ ∃ e ∈ map, e.region = r := by
  simp [findEntry, List.find?_isSome]

theorem rank_cons_of_lt {x : MapEntry} {r : Nat} (h : x.region < r) (xs : List MapEntry) :
    rank (x :: xs) r = rank xs r + 1 :=
  List.countP_cons_of_pos (by simpa using h)

/-- A region at or below the first of an ascending map has nothing below it. -/
theorem rank_cons_of_le {x : MapEntry} {xs : List MapEntry} {r : Nat} (hs : Ascending (x :: xs)) (h : r ≤ x.region) :
    rank (x :: xs) r = 0 := by
  have above : ∀ y ∈ xs, x.region < y.region := (List.pairwise_cons.mp hs).1
  refine List.countP_eq_zero.mpr fun y hy => ?_
  rcases List.mem_cons.mp hy with rfl | hy
  · simpa using h
  · simpa using h.trans (above y hy).le

theorem rank_le_length (map : List MapEntry) (r : Nat) : rank map r ≤ map.length := List.countP_le_length

/-- A new region's entry goes to the position its rank gives it. -/
theorem insertEntry_eq_take_drop {e : MapEntry} {map : List MapEntry} (hs : Ascending map)
    (hnew : ∀ x ∈ map, x.region ≠ e.region) :
    insertEntry e map = map.take (rank map e.region) ++ e :: map.drop (rank map e.region) := by
  induction map with
  | nil => rfl
  | cons x xs ih =>
    by_cases hlt : e.region < x.region
    · rw [insertEntry, if_pos hlt, rank_cons_of_le hs hlt.le, List.take_zero, List.drop_zero, List.nil_append]
    · have hne : x.region ≠ e.region := hnew x List.mem_cons_self
      have ih := ih hs.of_cons fun y hy => hnew y (List.mem_cons_of_mem x hy)
      rw [insertEntry, if_neg hlt, rank_cons_of_lt (by omega), List.take_succ_cons, List.drop_succ_cons, List.cons_append,
        ih]

theorem positionOf_insertEntry {e : MapEntry} {map : List MapEntry} (hs : Ascending map)
    (hnew : ∀ x ∈ map, x.region ≠ e.region) : positionOf (insertEntry e map) e.region = rank map e.region := by
  have hfront : ¬ ∃ x ∈ map.take (rank map e.region), decide (x.region = e.region) = true := by
    rintro ⟨x, hx, heq⟩
    exact hnew x (List.mem_of_mem_take hx) (of_decide_eq_true heq)
  rw [positionOf, insertEntry_eq_take_drop hs hnew, List.findIdx_append,
    if_neg (mt List.findIdx_lt_length.mp hfront)]
  simp [List.findIdx_cons, rank_le_length]

theorem length_insertEntry (e : MapEntry) (map : List MapEntry) : (insertEntry e map).length = map.length + 1 := by
  induction map with
  | nil => rfl
  | cons x xs ih =>
    rw [insertEntry]
    split
    · rfl
    · rw [List.length_cons, ih, List.length_cons]

/-! ### MAP_LOAD (R28) -/

theorem exec_mapLoad (region : BitVec 32) (spare : Byte) (s : State) :
    exec (.mapLoad region spare) s = execMapLoad region spare s := rfl

theorem spare?_of_lt {s : State} {i : Nat} (h : i < s.S) : s.spare? i = s.spares[i]? := if_pos h

/-- What an accepted MAP_LOAD leaves in map and pool, with the entry at its place written out. -/
theorem loadMap_eq {s : State} {r : Nat} (hs : Ascending s.map) (hnew : ∀ x ∈ s.map, x.region ≠ r) (i : Nat) :
    s.loadMap r i =
      { s with
        map := s.map.take (rank s.map r) ++ ⟨r, i, .live, 0, .loaded, 0⟩ :: s.map.drop (rank s.map r)
        spares := s.spares.set i .inUse } := by
  have hmap := insertEntry_eq_take_drop (e := loadedEntry r i) hs hnew
  rw [State.loadMap, hmap]
  rfl

/-- The result bytes of an accepted MAP_LOAD: the entry's position and the new entry count. -/
theorem loadMap_reply_bytes {s : State} {r : Nat} (hs : Ascending s.map) (hnew : ∀ x ∈ s.map, x.region ≠ r) (i : Nat) :
    [byte (positionOf (s.loadMap r i).map r)] ++ le 2 (s.loadMap r i).map.length =
      [byte (rank s.map r)] ++ le 2 (s.map.length + 1) := by
  have hpos : positionOf (insertEntry (loadedEntry r i) s.map) r = rank s.map r :=
    positionOf_insertEntry (e := loadedEntry r i) hs hnew
  rw [State.loadMap, State.setSpare_map, State.setMap_map, hpos, length_insertEntry]

/-! ### The obligations -/

/-- Settles O11: the checks of R28 one by one; past them the region is new, so its entry goes where its rank puts it. -/
theorem mapLoadInserts : Obligations.MapLoadInserts := by
  intro region spare s hreset hs r i n
  rw [exec_mapLoad, execMapLoad, State.unlessHeld_of_high hreset]
  by_cases hstate : s.bridge.state ≠ .standby
  · rw [if_pos hstate, if_pos hstate]
  rw [if_neg hstate, if_neg hstate]
  by_cases hrange : s.V ≤ r ∨ s.S ≤ i
  · rw [if_pos hrange, if_pos hrange]
  rw [if_neg hrange, if_neg hrange]
  by_cases hdup : ∃ e ∈ s.map, e.region = r
  · rw [if_pos (findEntry_isSome_iff.mpr hdup), if_pos hdup]
  rw [if_neg (mt findEntry_isSome_iff.mp hdup), if_neg hdup, spare?_of_lt (by omega)]
  by_cases hfree : s.spares[i]? ≠ some .free
  · rw [if_pos hfree, if_pos hfree]
  rw [if_neg hfree, if_neg hfree]
  have hnew : ∀ x ∈ s.map, x.region ≠ r := fun x hx heq => hdup ⟨x, hx, heq⟩
  exact congrArg Host.Outcome.next
    (congrArg₂ (State.reply · .done ·) (loadMap_eq hs hnew i) (loadMap_reply_bytes hs hnew i))

end Sys2Proof.Proofs
end

section
/-! Spare Pool, Retirement Queue and Repair Engine (chapter 3): what a submission is answered (R39) and RETIRE with it (R40);
what a job start takes (R43) and how it ends without a FREE spare (R47). -/

namespace Sys2Proof.Proofs

open Sys2Proof Sys2Proof.Machine

/-! ### Bridge state and map -/

theorem inService_iff {s : State} : s.inService = true ↔ s.bridge.state = .online ∨ s.bridge.state = .degraded := by
  simp [State.inService]

theorem isCopying_eq_false_iff {e : MapEntry} : e.isCopying = false ↔ e.state = .live := by
  cases hstate : e.state <;> simp [MapEntry.isCopying, hstate]

theorem copyingEntry_eq_none_iff {map : List MapEntry} :
    copyingEntry map = none ↔ ∀ e ∈ map, e.isCopying = false := by
  simp [copyingEntry]

theorem findEntry_eq_none_iff {map : List MapEntry} {r : Nat} : findEntry map r = none ↔ ∀ e ∈ map, e.region ≠ r := by
  simp [findEntry]

/-- An ascending map has one entry at most for a region, so the search for the region finds that entry. -/
theorem findEntry_eq_some_iff {map : List MapEntry} {r : Nat} {e : MapEntry} (hs : Ascending map) :
    findEntry map r = some e ↔ e ∈ map ∧ e.region = r := by
  refine ⟨fun h => ⟨List.mem_of_find?_eq_some h, by simpa using List.find?_some h⟩, ?_⟩
  rintro ⟨he, rfl⟩
  induction map with
  | nil => cases he
  | cons x xs ih =>
    obtain ⟨above, hs⟩ := List.pairwise_cons.mp hs
    rcases List.mem_cons.mp he with rfl | he
    · exact List.find?_cons_of_pos (by simp)
    · have hne : x.region ≠ e.region := (above e he).ne
      exact (List.find?_cons_of_neg (by simpa using hne)).trans (ih hs he)

/-- Where a region has no LIVE entry, the entry that the search finds for it is COPYING. -/
theorem isCopying_of_findEntry {map : List MapEntry} {r : Nat} {e : MapEntry} (hs : Ascending map)
    (hlive : ¬ ∃ e ∈ map, e.region = r ∧ e.state = .live) (hfind : findEntry map r = some e) : e.isCopying = true := by
  obtain ⟨he, hregion⟩ := (findEntry_eq_some_iff hs).mp hfind
  exact Bool.of_not_eq_false fun h => hlive ⟨e, he, hregion, isCopying_eq_false_iff.mp h⟩

/-! ### Submission (R39) -/

/-- The three rows of R39, with its conditions as they stand in the queue and the map. -/
theorem submission_eq (s : State) (r : Nat) :
    s.submission r =
      if (∃ q ∈ s.queue, q.region = r) ∨ (∃ e ∈ s.map, e.region = r ∧ e.isCopying = true) then .duplicate
      else if 8 ≤ s.queue.length then .full
      else .accepted :=
  if_congr (by simp [and_comm]) rfl rfl

theorem submit_of_accepted {s : State} {r : Request} (h : s.submission r.region = .accepted) :
    s.submit r =
      State.logEvent { s with queue := s.queue ++ [r] } (.retireQueued r.region r.kind r.origin) := by
  rw [State.submit, h]
  rfl

/-! ### RETIRE (R40) -/

theorem exec_retire (region : BitVec 32) (s : State) : exec (.retire region) s = execRetire region s := rfl

/-! ### Job start (R43, R47) -/

theorem freeSpare?_eq_none_iff {s : State} : s.freeSpare? = none ↔ ∀ x ∈ s.spares, x ≠ .free := by
  simp [State.freeSpare?]

theorem exec_jobStart_of_idle {s : State} (hreset : s.resetLow = false) (hidle : s.engine = .idle)
    (hservice : s.bridge.state = .online ∨ s.bridge.state = .degraded) : exec .jobStart s = .next s.startJob := by
  have htaken : (decide (s.engine = .idle) && s.inService) = true := by simp [hidle, inService_iff.mpr hservice]
  exact (State.unlessHeld_of_high hreset _).trans (if_pos htaken)

section
variable {s : State} {r : Request} {rest : List Request}

/-- With no COPYING entry a job start takes the head request: a RETIRE request here. -/
theorem startJob_of_retire (hcopy : ∀ e ∈ s.map, e.isCopying = false) (hqueue : s.queue = r :: rest)
    (hkind : r.kind = .retire) : s.startJob = (s.setQueue rest).startRetire r := by
  simp only [State.startJob, copyingEntry_eq_none_iff.mpr hcopy, hqueue, hkind]

/-- With no COPYING entry a job start takes the head request: a REPLACE request here. -/
theorem startJob_of_replace (hcopy : ∀ e ∈ s.map, e.isCopying = false) (hqueue : s.queue = r :: rest)
    (hkind : r.kind = .replace) : s.startJob = (s.setQueue rest).startReplace r := by
  simp only [State.startJob, copyingEntry_eq_none_iff.mpr hcopy, hqueue, hkind]

theorem startRetire_of_no_spare (hnew : findEntry s.map r.region = none) (hspare : s.freeSpare? = none) :
    s.startRetire r = s.refuseJob r r.region := by
  simp only [State.startRetire, hnew, hspare]

theorem startReplace_of_no_spare {e : MapEntry} (hentry : findEntry s.map r.region = some e)
    (hspare : s.freeSpare? = none) : s.startReplace r = s.refuseJob r (s.V + e.spare) := by
  simp only [State.startReplace, hentry, hspare]

end

/-! ### The obligations -/

/-- Settles O14: the checks of R40 one by one. In an ascending map (R16) the search for the region finds its only entry, so
what it finds is LIVE exactly when a LIVE entry for the region exists. -/
theorem retireSubmits : Obligations.RetireSubmits := by
  intro region s hreset hs r
  rw [exec_retire, execRetire, State.unlessHeld_of_high hreset]
  by_cases hstate : ¬ (s.bridge.state = .online ∨ s.bridge.state = .degraded)
  · rw [if_pos hstate]
    exact if_pos (by simp [mt inService_iff.mp hstate])
  rw [if_neg hstate, inService_iff.mpr (not_not.mp hstate), if_neg (by decide)]
  by_cases hrange : s.V ≤ r
  · rw [if_pos hrange, if_pos hrange]
  rw [if_neg hrange, if_neg hrange]
  by_cases hlive : ∃ e ∈ s.map, e.region = r ∧ e.state = .live
  · rw [if_pos hlive]
    obtain ⟨e, he, hregion, hlive⟩ := hlive
    have hfind : findEntry s.map region.toNat = some e := (findEntry_eq_some_iff hs).mpr ⟨he, hregion⟩
    exact if_pos (by simp [hfind, isCopying_eq_false_iff.mpr hlive])
  rw [if_neg hlive]
  refine (if_neg ?notLive).trans ?submitted
  case notLive =>
    cases hfind : findEntry s.map region.toNat with
    | none => simp
    | some e => simp [isCopying_of_findEntry hs hlive hfind]
  have hresult := submission_eq s r
  by_cases htaken : (∃ q ∈ s.queue, q.region = r) ∨ ∃ e ∈ s.map, e.region = r ∧ e.isCopying = true
  · rw [if_pos htaken] at hresult ⊢
    rw [hresult]
  rw [if_neg htaken] at hresult ⊢
  by_cases hfull : 8 ≤ s.queue.length
  · rw [if_pos hfull] at hresult ⊢
    rw [hresult]
  rw [if_neg hfull] at hresult ⊢
  rw [hresult, submit_of_accepted hresult, State.logEvent_queue, List.length_append]
  rfl

/-- Settles O16: without a COPYING entry the job start takes the head request, and without a FREE spare a request of either
kind comes to the refusal of R47, from its own source region. -/
theorem jobStartWithoutSpare : Obligations.JobStartWithoutSpare := by
  intro s r rest hreset hidle hservice hcopy hqueue hspares refused
  have hspare : (s.setQueue rest).freeSpare? = none := freeSpare?_eq_none_iff.mpr hspares
  have hrefused (q : Nat) : (s.setQueue rest).refuseJob r q = refused q := rfl
  rw [exec_jobStart_of_idle hreset hidle hservice]
  constructor
  · intro hkind hnew
    have hfind : findEntry (s.setQueue rest).map r.region = none := findEntry_eq_none_iff.mpr hnew
    rw [startJob_of_retire hcopy hqueue hkind, startRetire_of_no_spare hfind hspare, hrefused]
  · intro e hkind hentry
    have hfind : findEntry (s.setQueue rest).map r.region = some e := hentry
    rw [startJob_of_replace hcopy hqueue hkind, startReplace_of_no_spare hfind hspare, hrefused]
    rfl

end Sys2Proof.Proofs
end

section
/-! Bridge Control (chapter 8): what a containment request comes to when it is taken (R136) or forced (R141), by the bridge
state; what the soft reset does to each block (R142). -/

namespace Sys2Proof.Proofs

open Sys2Proof Sys2Proof.Machine

/-! ### Containment requests (R136, R139, R141) -/

/-- A later cause changes the Containment Record only, and of it the count, which saturates at 255, and the latest later cause. -/
theorem laterCause_eq (s : State) (k : Cause) :
    s.laterCause k =
      { s with
        bridge :=
          { s.bridge with
            record := s.bridge.record.map fun x =>
              { x with
                laterCount := if x.laterCount < 255 then x.laterCount + 1 else x.laterCount
                latestLater := some k } } } := rfl

theorem takeContainment_of_contain {s : State} (h : s.bridge.state = .contain) (r : ContainRequest) :
    s.takeContainment r = s.laterCause r.cause := by
  rw [State.takeContainment, h]

theorem takeContainment_of_standby {s : State} (h : s.bridge.state = .standby) (r : ContainRequest) :
    s.takeContainment r = s := by
  rw [State.takeContainment, h]

section
variable {s : State} {r : ContainRequest} {rest : List ContainRequest}

theorem exec_containmentRequest_memoryPort (hreset : s.resetLow = false) (h : s.bridge.fromMemory = r :: rest) :
    exec (.containmentRequest .memoryPort) s =
      .next ((s.setBridge { s.bridge with fromMemory := rest }).takeContainment r) := by
  rw [exec, execContainmentRequest, State.unlessHeld_of_high hreset, h]

theorem exec_containmentRequest_requestHandler (hreset : s.resetLow = false) (h : s.bridge.fromHandler = r :: rest) :
    exec (.containmentRequest .requestHandler) s =
      .next ((s.setBridge { s.bridge with fromHandler := rest }).takeContainment r) := by
  rw [exec, execContainmentRequest, State.unlessHeld_of_high hreset, h]

theorem exec_forceContain_of_contain (hreset : s.resetLow = false) (h : s.bridge.state = .contain) :
    exec .forceContain s = .next ((s.laterCause .forced).reply .already []) := by
  rw [exec, execForceContain, State.unlessHeld_of_high hreset, h]

theorem exec_forceContain_of_standby (hreset : s.resetLow = false) (h : s.bridge.state = .standby) :
    exec .forceContain s = .next (s.reply .badState []) := by
  rw [exec, execForceContain, State.unlessHeld_of_high hreset, h]

end

/-! ### The soft reset of each block (R142) -/

theorem exec_softReset {s : State} (hreset : s.resetLow = false) :
    exec .softReset s = .next (s.softReset.reply .done []) := by
  rw [exec, execSoftReset, State.unlessHeld_of_high hreset]

/-- The engine is IDLE and its queue empty; only a spare test has a spare to put back (R58, R60). -/
theorem softResetEngine_eq (s : State) :
    s.softResetEngine =
      { s with
        spares := (match s.engine with | .testing t => s.spares.set t.index t.before | _ => s.spares)
        queue := []
        engine := .idle } := by
  rw [State.softResetEngine]
  cases s.engine <;> rfl

/-- No diagnostic operation is left, and one that ran makes FILL invalid (R179). -/
theorem softResetDiag_eq (s : State) :
    s.softResetDiag =
      { s with
        mgmt :=
          { s.mgmt with
            diag := none
            fill := if s.mgmt.diag.isSome then { s.mgmt.fill with valid := false } else s.mgmt.fill } } := by
  rw [State.softResetDiag, State.diagBusy]
  cases hdiag : s.mgmt.diag with
  | some d => rfl
  | none =>
    have hkept : s.mgmt = { s.mgmt with diag := none } := by rw [← hdiag]
    exact congrArg s.setMgmt hkept

/-! ### The obligations -/

/-- Settles O46: every block's part of the soft reset reads only what the blocks before it leave alone, so each is its own
equation at the state after the change to STANDBY. -/
theorem softResetLeaves : Obligations.SoftResetLeaves := by
  intro s hreset u
  rw [exec_softReset hreset, State.softReset, softResetDiag_eq, softResetEngine_eq]
  rfl

/-- Settles O44: the bridge state decides what a request comes to, by command or from either block, and handing a request over
leaves the bridge state as it is. -/
theorem laterCauseCounted : Obligations.LaterCauseCounted := by
  intro s r rest hreset later
  have hlater (u : State) (k : Cause) : u.laterCause k = later u k := laterCause_eq u k
  constructor
  · intro hcontain
    have htaken (u : State) (hu : u.bridge.state = s.bridge.state) : u.takeContainment r = later u r.cause :=
      (takeContainment_of_contain (hu.trans hcontain) r).trans (hlater u r.cause)
    refine ⟨?_, fun hhead => ?_, fun hhead => ?_⟩
    · rw [exec_forceContain_of_contain hreset hcontain, hlater]
    · exact (exec_containmentRequest_memoryPort hreset hhead).trans (congrArg _ (htaken _ rfl))
    · exact (exec_containmentRequest_requestHandler hreset hhead).trans (congrArg _ (htaken _ rfl))
  · intro hstandby
    have htaken (u : State) (hu : u.bridge.state = s.bridge.state) : u.takeContainment r = u :=
      takeContainment_of_standby (hu.trans hstandby) r
    refine ⟨exec_forceContain_of_standby hreset hstandby, fun hhead => ?_, fun hhead => ?_⟩
    · exact (exec_containmentRequest_memoryPort hreset hhead).trans (congrArg _ (htaken _ rfl))
    · exact (exec_containmentRequest_requestHandler hreset hhead).trans (congrArg _ (htaken _ rfl))

end Sys2Proof.Proofs
end

section
/-! Event Unit (chapter 9): what logging an event comes to with room in the Event Queue and with none (R146, R147), what a pop
leaves (R149), and ALERT_N after either (R150). -/

namespace Sys2Proof.Proofs

open Sys2Proof Sys2Proof.Machine

/-! ### ALERT_N (R150) -/

theorem alertCondition_eq_decide (s : State) :
    s.alertCondition = decide (s.mgmt.params.alertLevel ≤ s.ev.queue.length ∨ s.bridge.state = .contain) :=
  (Bool.decide_or _ _).symm

/-- The Event Unit's new value, with ALERT_N re-evaluated at its fill. -/
theorem refreshAlert_setEv (s : State) (u : EventUnit) :
    (s.setEv u).refreshAlert =
      { s with
        ev :=
          { u with
            alertLow := decide (s.mgmt.params.alertLevel ≤ u.queue.length ∨ s.bridge.state = .contain) } } :=
  congrArg (fun low => { s with ev := { u with alertLow := low } }) (alertCondition_eq_decide (s.setEv u))

/-! ### Logging (R131, R146, R147) -/

theorem append_of_room {u : EventUnit} (h : u.queue.length < 64) (pass : BitVec 16) (e : Event) :
    u.append pass e = { u with queue := u.queue ++ [⟨u.nextSeq, pass, e⟩], nextSeq := u.nextSeq + 1 } :=
  if_pos h

theorem append_of_full {u : EventUnit} (h : 64 ≤ u.queue.length) (pass : BitVec 16) (e : Event) :
    u.append pass e = { u with lost := if u.lost < 65535 then u.lost + 1 else u.lost } :=
  if_neg h.not_gt

theorem logEvent_of_room {s : State} (h : s.ev.queue.length < 64) (e : Event) :
    s.logEvent e =
      { s with
        ev :=
          { s.ev with
            queue := s.ev.queue ++ [⟨s.ev.nextSeq, s.patrol.pass, e⟩]
            nextSeq := s.ev.nextSeq + 1
            alertLow := decide (s.mgmt.params.alertLevel ≤ s.ev.queue.length + 1 ∨ s.bridge.state = .contain) } } := by
  rw [State.logEvent, append_of_room h, refreshAlert_setEv, List.length_append]
  rfl

theorem logEvent_of_full {s : State} (h : 64 ≤ s.ev.queue.length) (e : Event) :
    s.logEvent e =
      { s with
        ev :=
          { s.ev with
            lost := if s.ev.lost < 65535 then s.ev.lost + 1 else s.ev.lost
            alertLow := decide (s.mgmt.params.alertLevel ≤ s.ev.queue.length ∨ s.bridge.state = .contain) } } := by
  rw [State.logEvent, append_of_full h, refreshAlert_setEv]

theorem changeBridge_eq (s : State) (b : BridgeState) :
    s.changeBridge b =
      State.logEvent { s with bridge := { s.bridge with state := b, history := (s.bridge.state :: s.bridge.history).take 4 } }
        (.stateChanged s.bridge.state b) := rfl

/-! ### EVENT_POP (R149) -/

theorem exec_eventPop_of_empty {s : State} (hreset : s.resetLow = false) (h : s.ev.queue = []) :
    exec .eventPop s = .next (s.reply .empty [0x00]) := by
  rw [exec, execEventPop, State.unlessHeld_of_high hreset, h]

/-- The reply reads fill and lost count from the Event Unit after the pop. -/
theorem exec_eventPop_of_cons {s : State} {r : EventRecord} {rest : List EventRecord} (hreset : s.resetLow = false)
    (h : s.ev.queue = r :: rest) :
    exec .eventPop s =
      .next ((s.setEv (s.ev.popped s.patrol.pass rest)).refreshAlert.reply .done
        (eventBytes r (s.ev.popped s.patrol.pass rest).queue.length (s.ev.popped s.patrol.pass rest).lost)) := by
  rw [exec, execEventPop, State.unlessHeld_of_high hreset, h]
  rfl

/-! ### The obligations -/

/-- Settles O49: logging splits at 64 records, and a pop at an empty queue; whether a LOST record joins the tail is the split of
`EventUnit.popped`, and ALERT_N is re-evaluated on what that leaves. -/
theorem eventLoggedAndPopped : Obligations.EventLoggedAndPopped := by
  refine ⟨fun s e => ⟨fun hroom => logEvent_of_room hroom e, fun hfull => logEvent_of_full hfull e, changeBridge_eq s⟩, ?_⟩
  intro s hreset
  refine ⟨exec_eventPop_of_empty hreset, ?_⟩
  intro r rest hqueue after
  have hafter : s.ev.popped s.patrol.pass rest = after := rfl
  rw [exec_eventPop_of_cons hreset hqueue, hafter, refreshAlert_setEv, eventBytes]

end Sys2Proof.Proofs
end

section
/-! Flows: what the blocks do among themselves inside one happening, as a relation built from single changes. Every shared
operation that settles holds, issues memory operations or ends an owner's operation is a flow; a law that each single change
keeps is then kept by all of them. -/

-- Fewer threads at once: each takes a part of the memory that a check of the whole text may use.
set_option Elab.async false

namespace Sys2Proof.Proofs

open Sys2Proof Sys2Proof.Machine

/-! ### The relation -/

/-- What a happening lets its flow do. -/
structure Scope where
  /-- the memory operations that may be asked for -/
  writes : MemKind → Prop
  /-- operations and visits may come up, and things may be handed to the Health Tracker -/
  stirs : Prop
  /-- a spare test may end outside CONTAIN -/
  ends : Prop

/-- Which copy job or spare test the engine has, without its progress within a line. -/
def role : EngineState → EngineState
  | .idle => .idle
  | .copying j => .copying { j with phase := .none, attempts := 0, timeouts := 0, poison := false }
  | .suspended j => .copying { j with phase := .none, attempts := 0, timeouts := 0, poison := false }
  | .testing t => .testing { t with line := 0, phase := .none, timeouts := 0 }
  | .halted j => .halted j

/-- Each hold of the first table stands in the second, in the same order, with its key and as ACTIVE as there. -/
def HoldsWithin (l m : LineOrder) : Prop :=
  (l.entries.map fun e => (e.key, e.active)).Sublist (m.entries.map fun e => (e.key, e.active))

/-- The format cursor stays, or moves to the next line of an array of `lines` lines. -/
def CursorMoves (lines : Nat) (before after : Option FormatCursor) : Prop :=
  after.isSome = before.isSome ∧
    ∀ k ∈ after, ∃ k' ∈ before, k.line = k'.line ∨ (k.line = k'.line + 1 ∧ k.line ≠ lines)

/-- One block's part of a happening, each step a single change of the state. -/
inductive Flow (x : Scope) : State → State → Prop
  | refl (s : State) : Flow x s s
  | trans {s t u : State} : Flow x s t → Flow x t u → Flow x s u
  | log (s : State) (e : Event) : Flow x s (s.logEvent e)
  | count (s : State) (f : Counters → Counters) : Flow x s (s.count f)
  | send (s : State) (r : Response) (h : r.law) : Flow x s (s.setHostOut (s.hostOut ++ [r]))
  | link (s : State) (l : Link) : Flow x s (s.setLink l)
  | ops (s : State) (l : List HostOp) (h : l ≠ [] → s.ops ≠ [] ∨ x.stirs) : Flow x s (s.setOps l)
  | addHold (s : State) (k : Key) (o : Owner) : Flow x s (s.addHold k o)
  | dropHolds (s : State) (l : LineOrder) (h : HoldsWithin l s.order) : Flow x s (s.setOrder l)
  | activate (s : State) (k : Key) (h : (s.holdsOn k).any (·.active) = false) : Flow x s (s.activate k)
  | sendOp (s : State) (t : Fin 64) (r : IssueReq) (hw : x.writes r.kind) (hb : s.bridge.state ≠ .contain)
      (ht : s.mem.tagFree t = true) : Flow x s (s.sendOp t r)
  | defer (s : State) (r : IssueReq) (hw : x.writes r.kind) : Flow x s (s.defer r)
  | hand (s : State) (y : Handed) (h : x.stirs) : Flow x s (s.hand y)
  | patrol (s : State) (p : Patrol) (hp : p.position = s.patrol.position) (hc : p.counts = s.patrol.counts)
      (hv : p.visit ≠ none → s.patrol.visit ≠ none ∨ x.stirs) : Flow x s (s.setPatrol p)
  | closeVisit (s : State) (e : VisitEnd) (h : x.stirs) : Flow x s (s.closeVisit e)
  | engine (s : State) (e : EngineState) (h : role e = role s.engine) : Flow x s (s.setEngine e)
  | finishTest (s : State) (t : TestJob) (r : TestResult) (h : role s.engine = role (.testing t))
      (hx : s.bridge.state = .contain ∨ x.ends) : Flow x s (s.finishTest t r)
  | mgmt (s : State) (m : Mgmt) (ha : m.address = s.mgmt.address) (hp : m.params = s.mgmt.params)
      (hr : m.reply = s.mgmt.reply) (hv : m.view = s.mgmt.view) : Flow x s (s.setMgmt m)
  | bridge (s : State) (b : Bridge) (hs : b.state = s.bridge.state) (hh : b.history = s.bridge.history)
      (hr : b.record = s.bridge.record) (hc : CursorMoves (s.P * 64) s.bridge.cursor b.cursor) : Flow x s (s.setBridge b)

/-- A host operation, a visit, or a bridge out of STANDBY: what StandbyLaw rules out in STANDBY. -/
def Stirs (s : State) : Prop := s.bridge.state ≠ .standby ∨ s.ops ≠ [] ∨ s.patrol.visit ≠ none

theorem Stirs.of_state {s : State} {b : BridgeState} (h : s.bridge.state = b) (hb : b ≠ .standby := by decide) : Stirs s :=
  .inl (h ▸ hb)

variable {x : Scope} {s t : State}

/-! ### What every flow leaves alone -/

/-- The patrol after a visit, but for a pass end (R124). -/
def visited (p : Patrol) (e : VisitEnd) : Patrol :=
  { p with visit := none, counts := p.counts.add e, position := p.position + 1 }

/-- The patrol after a pass end (R125, R126). -/
def nextPass (p : Patrol) : Patrol :=
  { p.offer ⟨p.pass, p.counts⟩ with pass := p.pass + 1, position := 0, counts := PassCounts.zero }

/-- An event and a notice do not depend on what else the patrol is set to beside its pass number. -/
theorem setPatrol_logged (s : State) {p q : Patrol} (h : q.pass = p.pass) (e : Event) (y : Handed) :
    (((s.setPatrol p).logEvent e).hand y).setPatrol q = ((s.setPatrol q).logEvent e).hand y := by
  unfold State.logEvent
  rw [State.setPatrol_patrol, State.setPatrol_patrol, h]
  rfl

theorem offer_eq (p : Patrol) (f : Summary) :
    p.offer f =
      { p with
        summary := if p.summaryValid then p.summary else f
        summaryValid := true
        missed := if p.summaryValid then satSucc 255 p.missed else p.missed } := by
  cases h : p.summaryValid <;> simp [Patrol.offer, h]

theorem passEnd_eq (s : State) : s.passEnd =
    ((s.setPatrol (nextPass s.patrol)).logEvent (.passDone s.patrol.pass)).hand (.passEnd s.patrol.pass) := by
  unfold State.passEnd nextPass
  simp only [offer_eq, State.hand_patrol, State.logEvent_patrol, State.setPatrol_patrol]
  exact setPatrol_logged s (by rfl) _ _

theorem closeVisit_eq (s : State) (e : VisitEnd) : s.closeVisit e =
    if s.patrol.position + 1 = s.V * 64 then
      ((s.setPatrol (nextPass (visited s.patrol e))).logEvent (.passDone s.patrol.pass)).hand (.passEnd s.patrol.pass)
    else s.setPatrol (visited s.patrol e) :=
  calc s.closeVisit e
    _ = if s.patrol.position + 1 = s.V * 64 then (s.setPatrol (visited s.patrol e)).passEnd
        else s.setPatrol (visited s.patrol e) := rfl
    _ = _ := by rw [passEnd_eq]; rfl

/-- The fields that no flow changes. -/
structure SameBase (s t : State) : Prop where
  pending : t.pending = s.pending
  map : t.map = s.map
  queue : t.queue = s.queue
  suspects : t.suspects = s.suspects
  resetLow : t.resetLow = s.resetLow
  state : t.bridge.state = s.bridge.state
  history : t.bridge.history = s.bridge.history
  record : t.bridge.record = s.bridge.record
  address : t.mgmt.address = s.mgmt.address
  params : t.mgmt.params = s.mgmt.params
  reply : t.mgmt.reply = s.mgmt.reply
  view : t.mgmt.view = s.mgmt.view
  generation : t.mem.generation = s.mem.generation
  quarantine : t.mem.quarantine = s.mem.quarantine

theorem SameBase.refl (s : State) : SameBase s s :=
  ⟨rfl, rfl, rfl, rfl, rfl, rfl, rfl, rfl, rfl, rfl, rfl, rfl, rfl, rfl⟩

theorem SameBase.trans {u : State} (h : SameBase s t) (h' : SameBase t u) : SameBase s u :=
  ⟨h'.pending.trans h.pending, h'.map.trans h.map, h'.queue.trans h.queue, h'.suspects.trans h.suspects,
    h'.resetLow.trans h.resetLow, h'.state.trans h.state, h'.history.trans h.history, h'.record.trans h.record,
    h'.address.trans h.address, h'.params.trans h.params, h'.reply.trans h.reply, h'.view.trans h.view,
    h'.generation.trans h.generation, h'.quarantine.trans h.quarantine⟩

theorem closeVisit_base (s : State) (e : VisitEnd) : SameBase s (s.closeVisit e) := by
  rw [closeVisit_eq]
  split <;> exact ⟨rfl, rfl, rfl, rfl, rfl, rfl, rfl, rfl, rfl, rfl, rfl, rfl, rfl, rfl⟩

theorem finishTest_base (s : State) (j : TestJob) (r : TestResult) : SameBase s (s.finishTest j r) :=
  ⟨rfl, rfl, rfl, rfl, rfl, rfl, rfl, rfl, rfl, rfl, rfl, rfl, rfl, rfl⟩

theorem Flow.base (h : Flow x s t) : SameBase s t := by
  induction h with
  | trans _ _ ih ih' => exact ih.trans ih'
  | closeVisit s e => exact closeVisit_base s e
  | finishTest s j r => exact finishTest_base s j r
  | mgmt s m ha hp hr hv => exact ⟨rfl, rfl, rfl, rfl, rfl, rfl, rfl, rfl, ha, hp, hr, hv, rfl, rfl⟩
  | bridge s b hs hh hr hc => exact ⟨rfl, rfl, rfl, rfl, rfl, hs, hh, hr, rfl, rfl, rfl, rfl, rfl, rfl⟩
  | _ => exact ⟨rfl, rfl, rfl, rfl, rfl, rfl, rfl, rfl, rfl, rfl, rfl, rfl, rfl, rfl⟩

theorem closeVisit_visit (s : State) (e : VisitEnd) : (s.closeVisit e).patrol.visit = none := by
  rw [closeVisit_eq]
  split
  · simp [nextPass, visited, offer_eq]
  · rfl

@[simp] theorem closeVisit_engine (s : State) (e : VisitEnd) : (s.closeVisit e).engine = s.engine := by
  rw [closeVisit_eq]; split <;> rfl
@[simp] theorem closeVisit_ops (s : State) (e : VisitEnd) : (s.closeVisit e).ops = s.ops := by
  rw [closeVisit_eq]; split <;> rfl
@[simp] theorem closeVisit_order (s : State) (e : VisitEnd) : (s.closeVisit e).order = s.order := by
  rw [closeVisit_eq]; split <;> rfl
@[simp] theorem closeVisit_hostOut (s : State) (e : VisitEnd) : (s.closeVisit e).hostOut = s.hostOut := by
  rw [closeVisit_eq]; split <;> rfl
@[simp] theorem closeVisit_memOut (s : State) (e : VisitEnd) : (s.closeVisit e).memOut = s.memOut := by
  rw [closeVisit_eq]; split <;> rfl
@[simp] theorem closeVisit_mem (s : State) (e : VisitEnd) : (s.closeVisit e).mem = s.mem := by
  rw [closeVisit_eq]; split <;> rfl
@[simp] theorem closeVisit_bridge (s : State) (e : VisitEnd) : (s.closeVisit e).bridge = s.bridge := by
  rw [closeVisit_eq]; split <;> rfl
@[simp] theorem closeVisit_spares (s : State) (e : VisitEnd) : (s.closeVisit e).spares = s.spares := by
  rw [closeVisit_eq]; split <;> rfl
@[simp] theorem closeVisit_mgmt (s : State) (e : VisitEnd) : (s.closeVisit e).mgmt = s.mgmt := by
  rw [closeVisit_eq]; split <;> rfl

/-- Operations, visits and a bridge out of STANDBY come up only where the flow may stir. -/
theorem Flow.stirs (h : Flow x s t) (hs : Stirs s → x.stirs) : Stirs t → x.stirs := by
  induction h with
  | trans _ _ ih ih' => exact ih' (ih hs)
  | ops s l h =>
    rintro (hb | hl | hv)
    · exact hs (.inl hb)
    · exact (h hl).elim (fun h => hs (.inr (.inl h))) id
    · exact hs (.inr (.inr hv))
  | patrol s p _ _ hv =>
    rintro (hb | hl | hp)
    · exact hs (.inl hb)
    · exact hs (.inr (.inl hl))
    · exact (hv hp).elim (fun h => hs (.inr (.inr h))) id
  | closeVisit s e h => exact fun _ => h
  | bridge s b hb =>
    rintro (h | h)
    · exact hs (.inl (hb ▸ h))
    · exact hs (.inr h)
  | _ => exact hs

/-- Outside CONTAIN, in a flow that may end no test, the engine keeps its job or test. -/
theorem Flow.role_eq (h : Flow x s t) (hx : ¬ x.ends) (hb : s.bridge.state ≠ .contain) : role t.engine = role s.engine := by
  induction h with
  | trans h _ ih ih' => exact (ih' (by rw [h.base.state]; exact hb)).trans (ih hb)
  | engine s e h => exact h
  | finishTest s j r h hc => exact absurd hc (by simp [hx, hb])
  | closeVisit s e => rw [closeVisit_engine]
  | _ => rfl

/-- What is under way in the Memory Port stays under way. -/
theorem Flow.active (h : Flow x s t) : s.mem.active ⊆ t.mem.active := by
  induction h with
  | trans _ _ ih ih' => exact fun a ha => ih' (ih ha)
  | sendOp s t r => exact List.subset_append_left _ _
  | closeVisit s e => rw [closeVisit_mem]; exact List.Subset.refl _
  | _ => exact List.Subset.refl _

end Sys2Proof.Proofs
end

section
/-! The shared operations of the blocks (Machine/Ops.lean) as flows: sending, reporting, ending and issuing, and the settling
of holds. -/

-- Fewer threads at once: each takes a part of the memory that a check of the whole text may use.
set_option Elab.async false

namespace Sys2Proof.Proofs

open Sys2Proof Sys2Proof.Machine

variable {x : Scope} {s t : State}

/-! ### Holds -/

theorem HoldsWithin.of_sublist {l m : LineOrder} (h : l.entries.Sublist m.entries) : HoldsWithin l m := h.map _

theorem removeHold_flow (s : State) (o : Owner) : Flow x s (s.removeHold o) :=
  .dropHolds s _ (.of_sublist List.filter_sublist)

/-! ### Host operations (R73, R80, R84, R92, R96, R160) -/

/-- Under a status other than OK and CORRECTED zero data keeps the law of R155. -/
theorem response_law_zero {tag : Fin 32} {st : RespStatus} {req : HostReq} (h : st ≠ .corrected) :
    (⟨tag, st, req.responseData Data.zero⟩ : Response).law := by
  refine ⟨fun _ _ d hd => ?_, fun h' => absurd h' h⟩
  cases req <;> simp_all [HostReq.responseData]

theorem response_law_ok {tag : Fin 32} {d : Option Data} : (⟨tag, .ok, d⟩ : Response).law :=
  ⟨fun h => absurd rfl h, nofun⟩

theorem response_law_corrected {tag : Fin 32} {d : Data} : (⟨tag, .corrected, some d⟩ : Response).law :=
  ⟨fun _ h => absurd rfl h, fun _ => nofun⟩

theorem send_flow {r : Response} (h : r.law) : Flow x s (s.send r) := by
  have hsent := Flow.send (x := x) s r h
  unfold State.send
  dsimp only
  split
  · exact hsent.trans (.count _ _)
  · exact hsent.trans (.count _ _)
  · exact hsent

theorem respond_flow {op : HostOp} {st : RespStatus} {d : Data} (h : (⟨op.tag, st, op.req.responseData d⟩ : Response).law) :
    Flow x s (s.respond op st d) := by
  unfold State.respond
  split
  · exact .refl s
  · exact send_flow h

theorem respond_zero_flow (s : State) (op : HostOp) {st : RespStatus} (h : st ≠ .corrected := by decide) :
    Flow x s (s.respond op st Data.zero) :=
  respond_flow (response_law_zero h)

theorem respond_ok_flow (s : State) (op : HostOp) (d : Data) : Flow x s (s.respond op .ok d) := respond_flow response_law_ok

theorem respond_corrected_flow (s : State) {op : HostOp} (h : op.req = .rd) (d : Data) :
    Flow x s (s.respond op .corrected d) :=
  respond_flow (by rw [h]; exact response_law_corrected)

theorem hostReport_flow (hx : x.stirs) (s : State) (k : ReportKind) (p : Nat) : Flow x s (s.hostReport k p) := by
  unfold State.hostReport
  split
  · exact .refl s
  · exact .hand s _ hx

theorem hostTransient_flow (hx : x.stirs) (s : State) (p reads : Nat) : Flow x s (s.hostTransient p reads) :=
  (hostReport_flow hx s _ _).trans ((Flow.log _ _).trans (.count _ _))

theorem portQuiesced_flow (s : State) : Flow x s s.portQuiesced := (Flow.link s _).trans (.log _ _)

theorem orphanFinished_flow (s : State) : Flow x s s.orphanFinished := by
  have hcounted := Flow.dropHolds (x := x) s { s.order with finished := s.order.finished + 1 } (.of_sublist (List.Sublist.refl _))
  unfold State.orphanFinished
  dsimp only
  split
  · exact hcounted
  · exact hcounted.trans (portQuiesced_flow _)

/-- Removing records brings no operation up. -/
theorem filter_ops_ne_nil {l : List HostOp} {p : HostOp → Bool} (h : l.filter p ≠ []) : l ≠ [] := by
  rintro rfl; exact h rfl

theorem endHostOp_flow (s : State) (op : HostOp) : Flow x s (s.endHostOp op) := by
  have hended := (removeHold_flow (x := x) s (.host op.tag)).trans
    (.ops _ (s.ops.filter fun o => o.tag ≠ op.tag) fun h => .inl (filter_ops_ne_nil h))
  unfold State.endHostOp
  dsimp only
  split
  · exact hended.trans (orphanFinished_flow _)
  · exact hended.trans (.link _ _)

theorem putOp_flow (s : State) (op : HostOp) : Flow x s (s.putOp op) :=
  .ops s _ fun h => .inl fun h' => h (by rw [h']; rfl)

theorem hostContainReply_flow (hx : x.stirs) (s : State) (op : HostOp) (e : MemEnd) : Flow x s (s.hostContainReply op e) := by
  have failed := fun u : State => respond_zero_flow (x := x) u op (st := .failed)
  have answer : ∀ (u : State) (d : Data),
      Flow x u (if op.req = .rd then u.respond op .ok d else u.respond op .failed Data.zero) := by
    intro u d
    split
    · exact respond_ok_flow u op d
    · exact failed u
  have correct : ∀ (u : State) (d : Data),
      Flow x u (if op.req = .rd then u.respond op .corrected d else u.respond op .failed Data.zero) := by
    intro u d
    split
    · next h => exact respond_corrected_flow u h d
    · exact failed u
  unfold State.hostContainReply
  dsimp only
  split
  case h_1 => exact .refl s
  case h_2 => exact .refl s
  case h_3 => exact failed s
  case h_4 => exact failed s
  case h_5 =>
    split
    · exact answer s _
    · exact (hostReport_flow hx s _ _).trans (correct _ _)
    · exact respond_zero_flow s op
    · exact failed s
    · exact failed s
    · exact failed s
  case h_6 =>
    split
    · exact (hostTransient_flow hx s _ _).trans (answer _ _)
    · exact (hostTransient_flow hx s _ _).trans (correct _ _)
    · exact respond_zero_flow s op
    · exact failed s
    · exact failed s
    · exact failed s

/-! ### Visits, spare tests and diagnostics in CONTAIN (R54, R58, R128, R184) -/

theorem patrolTransient_flow (hx : x.stirs) (s : State) (p reads : Nat) : Flow x s (s.patrolTransient p reads) :=
  (Flow.hand s _ hx).trans (.log _ _)

theorem patrolContainReport_flow (hx : x.stirs) (s : State) (v : Visit) (e : MemEnd) :
    Flow x s (s.patrolContainReport v e) := by
  unfold State.patrolContainReport
  dsimp only
  split
  · exact .hand s _ hx
  · exact patrolTransient_flow hx s _ _
  · exact patrolTransient_flow hx s _ _
  · exact .refl s

theorem patrolContainEnd_flow (hx : x.stirs) (s : State) (v : Visit) (e : MemEnd) : Flow x s (s.patrolContainEnd v e) :=
  (patrolContainReport_flow hx s v e).trans <| (removeHold_flow _ _).trans <| (Flow.closeVisit _ _ hx).trans <|
    .patrol _ _ rfl rfl .inl

theorem engineContainEnd_flow (hc : s.bridge.state = .contain) : Flow x s s.engineContainEnd := by
  unfold State.engineContainEnd
  split
  · next t ht => exact (removeHold_flow s _).trans (.finishTest _ t _ (by simp [ht]) (.inl hc))
  · exact removeHold_flow s _

theorem finishDiag_flow (s : State) (d : DiagOp) (e : MemEnd) : Flow x s (s.finishDiag d e) := by
  unfold State.finishDiag
  split <;> exact .mgmt s _ rfl rfl rfl rfl

theorem diagContainEnd_flow (s : State) (e : MemEnd) : Flow x s (s.diagContainEnd e) := by
  unfold State.diagContainEnd
  split
  · exact (removeHold_flow s _).trans (finishDiag_flow _ _ _)
  · exact .refl s

/-- Whoever's memory operation ends in CONTAIN. -/
theorem endInContain_flow (hc : s.bridge.state = .contain) (hs : Stirs s → x.stirs) (o : Owner) (e : MemEnd) :
    Flow x s (s.endInContain o e) := by
  have hx := hs (.of_state hc)
  unfold State.endInContain
  split
  · split
    · exact (hostContainReply_flow hx s _ e).trans (endHostOp_flow _ _)
    · exact .refl s
  · split
    · exact patrolContainEnd_flow hx s _ e
    · exact .refl s
  · exact engineContainEnd_flow hc
  · exact diagContainEnd_flow s e
  · exact .refl s

/-! ### Issue (R165, R170) -/

theorem tagFree_of_lowestTag {m : MemPort} {t : Fin 64} (h : m.lowestTag = some t) : m.tagFree t = true :=
  List.find?_some h

/-- An issue request: its operation is sent or deferred, or, in CONTAIN, ends at once. -/
theorem issue_flow (hs : Stirs s → x.stirs) {r : IssueReq} (hw : x.writes r.kind) : Flow x s (s.issue r) := by
  unfold State.issue
  split
  · next hc => exact endInContain_flow hc hs _ _
  · next hc =>
    split
    · exact .defer s r hw
    · split
      · next t ht => exact .sendOp s t r hw hc (tagFree_of_lowestTag ht)
      · exact .defer s r hw

/-- After a flow, an issue request. -/
theorem Flow.issue (h : Flow x s t) (hs : Stirs s → x.stirs) {r : IssueReq} (hw : x.writes r.kind) :
    Flow x s (t.issue r) :=
  h.trans (issue_flow (h.stirs hs) hw)

/-- The memory operations whose symbols are of the code may be asked for. -/
def Scope.Coded (x : Scope) : Prop := ∀ k : MemKind, k.law → x.writes k

theorem law_encode (d : Data) : MemKind.law (.mwr (encode d)) := .inl (by simp [isValid, encode])

theorem law_poisonMark (d : Data) : MemKind.law (.mwr (poisonMark d)) := .inr (by simp [isPoisonMarked, poisonMark])

/-! ### Activation (R65 to R68) -/

variable (hw : x.Coded)
include hw

theorem beginHost_flow (hs : Stirs s → x.stirs) (op : HostOp) : Flow x s (s.beginHost op) := by
  unfold State.beginHost
  dsimp only
  split
  · exact (putOp_flow s _).issue hs (hw _ trivial)
  · exact (putOp_flow s _).issue hs (hw _ (law_encode _))
  · split
    · exact (putOp_flow s _).issue hs (hw _ (law_encode _))
    · split
      · exact (respond_ok_flow s op _).trans (endHostOp_flow _ _)
      · exact (putOp_flow s _).issue hs (hw _ trivial)

omit hw in
theorem startVisit_flow (hx : x.stirs) (s : State) : Flow x s s.startVisit.1 := by
  have hstarted := Flow.patrol (x := x) s { s.patrol with timer := .running s.mgmt.params.patrolIntervalUs } rfl rfl .inl
  unfold State.startVisit
  dsimp only
  split
  · exact hstarted.trans (.closeVisit _ _ hx)
  · refine .trans ?_ (.addHold _ _ _)
    exact hstarted.trans (.patrol _ _ rfl rfl fun _ => .inr hx)

omit hw in
theorem startDueVisit_flow (hx : x.stirs) (s : State) : Flow x s s.startDueVisit.1 := by
  unfold State.startDueVisit
  split
  · refine .trans ?_ (startVisit_flow hx _)
    exact .patrol s _ rfl rfl .inl
  · exact .refl s

theorem beginVisit_flow (hs : Stirs s → x.stirs) {v : Visit} (hv : s.patrol.visit = some v) :
    Flow x s (s.beginVisit v).1 := by
  have hx : x.stirs := hs (.inr (.inr (by rw [hv]; nofun)))
  unfold State.beginVisit
  split
  · exact (removeHold_flow s _).trans ((Flow.closeVisit _ _ hx).trans (startDueVisit_flow hx _))
  · refine Flow.issue (r := ⟨.patrol, .mrd, _⟩) ?_ hs (hw _ trivial)
    exact .patrol s _ rfl rfl fun _ => .inr hx

theorem beginEngine_flow (hs : Stirs s → x.stirs) : Flow x s s.beginEngine := by
  unfold State.beginEngine
  split
  · next j hj => exact (Flow.engine s _ (by rw [hj]; rfl)).issue hs (hw _ trivial)
  · next j hj => exact (Flow.engine s _ (by rw [hj]; rfl)).issue hs (hw _ (law_encode _))
  · exact .refl s

omit hw in
theorem law_diagKindOp (s : State) (k : DiagKind) : (s.diagKindOp k).law := by
  cases k
  · trivial
  · exact law_encode _
  · exact law_poisonMark _

theorem beginDiag_flow (hs : Stirs s → x.stirs) : Flow x s s.beginDiag := by
  unfold State.beginDiag
  split
  · exact issue_flow hs (hw _ (law_diagKindOp s _))
  · exact .refl s

theorem begin_flow (hs : Stirs s → x.stirs) (o : Owner) : Flow x s (s.begin o).1 := by
  unfold State.begin
  split
  · split
    · exact beginHost_flow hw hs _
    · exact .refl s
  · split
    · next v hv => exact beginVisit_flow hw hs hv
    · exact .refl s
  · exact beginEngine_flow hw hs
  · exact beginDiag_flow hw hs
  · exact .refl s

omit hw in
theorem none_active_of_nextOwner {k : Key} {o : Owner} (h : s.nextOwner k = some o) :
    (s.holdsOn k).any (·.active) = false := by
  unfold State.nextOwner at h
  split at h
  · cases h
  · next hn => exact Bool.not_eq_true _ ▸ hn

/-- Settling is a flow: by induction on its steps, each of which activates a hold and begins its owner's work. -/
theorem settle_flow (n : Nat) (ks : List Key) (hs : Stirs s → x.stirs) : Flow x s (State.settle n ks s) := by
  induction n generalizing ks s with
  | zero => exact .refl s
  | succ n ih =>
    match ks with
    | [] => exact .refl s
    | k :: ks =>
      rw [State.settle]
      split
      · exact ih ks hs
      · next o ho =>
        have hactive : Flow x s (s.activate k) := .activate s k (none_active_of_nextOwner ho)
        have hbegun : Flow x s ((s.activate k).begin o).1 := hactive.trans (begin_flow hw (hactive.stirs hs) o)
        exact hbegun.trans (ih _ (hbegun.stirs hs))

theorem Flow.settleKeys (h : Flow x s t) (hs : Stirs s → x.stirs) (ks : List Key) : Flow x s (t.settleKeys ks) :=
  h.trans (settle_flow hw _ ks (h.stirs hs))

theorem Flow.requestHold (h : Flow x s t) (hs : Stirs s → x.stirs) (k : Key) (o : Owner) :
    Flow x s (t.requestHold k o) :=
  (h.trans (.addHold t k o)).settleKeys hw hs [k]

theorem Flow.formatNotice (h : Flow x s t) (hs : Stirs s → x.stirs) : Flow x s t.formatNotice := by
  unfold State.formatNotice
  split
  · next c hc =>
    split
    · refine Flow.issue (r := ⟨.format, .mwr _, _⟩) ?_ hs (hw _ (law_encode _))
      exact h.trans (.bridge t _ rfl rfl rfl ⟨by simp [hc], by simp [hc]⟩)
    · exact h
  · exact h

theorem Flow.afterRelease (h : Flow x s t) (hs : Stirs s → x.stirs) (freed : Option Hold) :
    Flow x s (t.afterRelease freed) := by
  unfold State.afterRelease
  split
  · exact (h.settleKeys hw hs _).formatNotice hw hs
  · exact h.formatNotice hw hs

theorem Flow.release (h : Flow x s t) (hs : Stirs s → x.stirs) (o : Owner) : Flow x s (t.release o) :=
  (h.trans (removeHold_flow t o)).afterRelease hw hs _

theorem Flow.releaseHostOp (h : Flow x s t) (hs : Stirs s → x.stirs) (op : HostOp) : Flow x s (t.releaseHostOp op) :=
  (h.trans (endHostOp_flow t op)).afterRelease hw hs _

theorem Flow.endVisit (h : Flow x s t) (hs : Stirs s → x.stirs) (hx : x.stirs) (e : VisitEnd) : Flow x s (t.endVisit e) :=
  (h.trans ((Flow.closeVisit t e hx).trans (startDueVisit_flow hx _))).settleKeys hw hs _

end Sys2Proof.Proofs
end

section
/-! What an owner does when its memory operation ends, and the acceptance of requests, visits and link resets, as flows. Two
ends are no flow: the acknowledged write of a copy step, which changes the map, and that of the last format write, which changes
the bridge state. -/

-- Fewer threads at once: each takes a part of the memory that a check of the whole text may use.
set_option Elab.async false

namespace Sys2Proof.Proofs

open Sys2Proof Sys2Proof.Machine

variable {x : Scope} {s t : State}

/-! ### Host operations (R81 to R90) -/

/-- A read's corrected codeword is valid. -/
def Sound (e : MemEnd) : Prop := ∀ w k v, e = .read w (.corrected k v) → isValid v = true

theorem sound_classify (w : Codeword) : Sound (.read w (classify w)) := by
  rintro _ k v h
  simp only [MemEnd.read.injEq] at h
  obtain ⟨-, ⟨d, rfl⟩, -, -⟩ := classify_eq_iff.mp h.2
  simp [isValid, encode]

theorem stirs_of_opOf {i : Fin 32} {op : HostOp} (h : s.opOf i = some op) : Stirs s :=
  .inr (.inl (by rintro h'; simp [State.opOf, h'] at h))

section
variable (hw : x.Coded)
include hw

theorem Flow.hostWrite (h : Flow x s t) (hs : Stirs s → x.stirs) {w : Codeword} (hlaw : (MemKind.mwr w).law) (op : HostOp)
    (ph : HostPhase) : Flow x s (t.hostWrite op ph w) :=
  (h.trans (putOp_flow t _)).issue hs (hw _ hlaw)

theorem Flow.hostMerge (h : Flow x s t) (hs : Stirs s → x.stirs) (op : HostOp) (d : Data) : Flow x s (t.hostMerge op d) := by
  unfold State.hostMerge
  split
  · exact h.hostWrite hw hs (law_encode _) op _
  · exact h.hostWrite hw hs (law_encode _) op _
  · exact h

theorem Flow.respondAndRelease (h : Flow x s t) (hs : Stirs s → x.stirs) {op : HostOp} {st : RespStatus} {d : Data}
    (hr : Flow x t (t.respond op st d)) : Flow x s (t.respondAndRelease op st d) :=
  (h.trans hr).releaseHostOp hw hs op

theorem hostFinal_flow (hs : Stirs s → x.stirs) (hx : x.stirs) (op : HostOp) : Flow x s (s.hostFinal op) := by
  unfold State.hostFinal
  dsimp only
  split
  · exact ((Flow.refl s).hostWrite hw hs (law_poisonMark _) op _).trans <| (hostReport_flow hx _ _ _).trans <|
      (Flow.log _ _).trans (.count _ _)
  · refine .trans (.releaseHostOp hw ?_ hs op) (.bridge _ _ rfl rfl rfl ⟨rfl, fun k hk => ⟨k, hk, .inl rfl⟩⟩)
    exact (respond_zero_flow s op).trans <| (hostReport_flow hx _ _ _).trans <| (Flow.log _ _).trans (.count _ _)

theorem hostUncorrectable_flow (hs : Stirs s → x.stirs) (hx : x.stirs) (op : HostOp) :
    Flow x s (s.hostUncorrectable op) := by
  unfold State.hostUncorrectable
  split
  · exact ((putOp_flow s _).trans (.count _ _)).issue hs (hw _ trivial)
  · exact hostFinal_flow hw hs hx op

theorem hostRead_flow (hs : Stirs s → x.stirs) (hx : x.stirs) (op : HostOp) {r : ReadResult}
    (hr : ∀ k v, r = .corrected k v → isValid v = true) : Flow x s (s.hostRead op r) := by
  unfold State.hostRead
  dsimp only
  split
  case h_1 d =>
    have recorded : Flow x s (if op.phase = .retry then s.hostTransient (op.phys.getD 0) op.attempts else s) := by
      split
      · exact hostTransient_flow hx s _ _
      · exact .refl s
    split
    · exact recorded.respondAndRelease hw hs (respond_ok_flow _ op d)
    · exact recorded.hostMerge hw hs op d
  case h_2 k w =>
    have recorded : Flow x s (if op.phase = .retry then s.hostTransient (op.phys.getD 0) op.attempts
        else s.hostReport (.corrected k) (op.phys.getD 0)) := by
      split
      · exact hostTransient_flow hx s _ _
      · exact hostReport_flow hx s _ _
    split
    · next hrd =>
      exact (recorded.trans (respond_corrected_flow _ hrd w.data)).hostWrite hw hs (.inl (hr k w rfl)) _ _
    · exact recorded.hostMerge hw hs op w.data
  case h_3 => exact (Flow.refl s).respondAndRelease hw hs (respond_zero_flow s op)
  case h_4 => exact hostUncorrectable_flow hw hs hx op

theorem hostAck_flow (hs : Stirs s → x.stirs) (op : HostOp) : Flow x s (s.hostAck op) := by
  unfold State.hostAck
  split
  · exact (Flow.refl s).respondAndRelease hw hs (respond_zero_flow s op)
  · exact (Flow.refl s).respondAndRelease hw hs (respond_zero_flow s op)
  · exact (Flow.refl s).releaseHostOp hw hs op
  all_goals exact .refl s

theorem hostTimeout_flow (hs : Stirs s → x.stirs) (op : HostOp) : Flow x s (s.hostTimeout op) := by
  unfold State.hostTimeout
  split
  · exact (Flow.refl s).respondAndRelease hw hs (respond_zero_flow s op)
  · exact (Flow.refl s).respondAndRelease hw hs (respond_zero_flow s op)
  · exact (Flow.refl s).respondAndRelease hw hs (respond_zero_flow s op)
  · exact (Flow.refl s).respondAndRelease hw hs (respond_zero_flow s op)
  · exact (Flow.refl s).releaseHostOp hw hs op
  · exact .refl s

theorem hostEnd_flow (hs : Stirs s → x.stirs) (i : Fin 32) {e : MemEnd} (he : Sound e) : Flow x s (s.hostEnd i e) := by
  unfold State.hostEnd
  split
  · exact .refl s
  · next op hop =>
    split
    · next w r => exact hostRead_flow hw hs (hs (stirs_of_opOf hop)) op fun k v h => he w k v (by rw [h])
    · exact hostAck_flow hw hs op
    · exact hostTimeout_flow hw hs op

/-! ### Visits (R121 to R123) -/

theorem Flow.releaseVisit (h : Flow x s t) (hs : Stirs s → x.stirs) (hx : x.stirs) (e : VisitEnd) :
    Flow x s (t.releaseVisit e) :=
  (h.release hw hs .patrol).endVisit hw hs hx e

theorem Flow.visitWrite (h : Flow x s t) (hs : Stirs s → x.stirs) (hx : x.stirs) {w : Codeword}
    (hlaw : (MemKind.mwr w).law) (v : Visit) (y : Tally) : Flow x s (t.visitWrite v y w) := by
  refine Flow.issue (h.trans ?_) hs (hw _ hlaw)
  exact .patrol t _ rfl rfl fun _ => .inr hx

theorem visitUncorrectable_flow (hs : Stirs s → x.stirs) (hx : x.stirs) (v : Visit) :
    Flow x s (s.visitUncorrectable v) := by
  unfold State.visitUncorrectable
  dsimp only
  split
  · refine Flow.issue (r := ⟨.patrol, .mrd, _⟩) ?_ hs (hw _ trivial)
    exact .patrol s _ rfl rfl fun _ => .inr hx
  · exact ((Flow.refl s).visitWrite hw hs hx (law_poisonMark _) v _).trans <| (Flow.hand _ _ hx).trans (.log _ _)

theorem visitRead_flow (hs : Stirs s → x.stirs) (hx : x.stirs) (v : Visit) {r : ReadResult}
    (hr : ∀ k w, r = .corrected k w → isValid w = true) : Flow x s (s.visitRead v r) := by
  unfold State.visitRead
  dsimp only
  split
  case h_1 =>
    refine Flow.releaseVisit hw ?_ hs hx _
    split
    · exact patrolTransient_flow hx s _ _
    · exact .refl s
  case h_2 k w =>
    refine Flow.visitWrite hw ?_ hs hx (.inl (hr k w rfl)) v _
    split
    · exact patrolTransient_flow hx s _ _
    · exact .hand s _ hx
  case h_3 => exact (Flow.refl s).releaseVisit hw hs hx _
  case h_4 => exact visitUncorrectable_flow hw hs hx v

theorem patrolEnd_flow (hs : Stirs s → x.stirs) {e : MemEnd} (he : Sound e) : Flow x s (s.patrolEnd e) := by
  unfold State.patrolEnd
  split
  · exact .refl s
  · next v hv =>
    have hx : x.stirs := hs (.inr (.inr (by rw [hv]; nofun)))
    split
    · next w r => exact visitRead_flow hw hs hx v fun k u h => he w k u (by rw [h])
    · exact (Flow.refl s).releaseVisit hw hs hx _
    · exact (Flow.refl s).releaseVisit hw hs hx _

/-! ### The engine (R48, R49, R51, R56 to R58) -/

omit hw in
/-- A scope that allows all but the end of a spare test. -/
def Scope.quiet : Scope := ⟨fun _ => True, True, False⟩

omit hw in
theorem Scope.quiet_coded : Scope.quiet.Coded := fun _ _ => trivial

omit hw in
/-- Outside CONTAIN a release leaves the engine its job or test. -/
theorem role_release (hb : s.bridge.state ≠ .contain) (o : Owner) : role (s.release o).engine = role s.engine :=
  ((Flow.refl s).release Scope.quiet_coded (fun _ => trivial) o).role_eq not_false hb

/-- The engine goes on with its job and asks for a memory operation. -/
theorem Flow.engineIssue (h : Flow x s t) (hs : Stirs s → x.stirs) {e : EngineState} (he : role e = role t.engine)
    {r : IssueReq} (hlaw : r.kind.law) : Flow x s ((t.setEngine e).issue r) :=
  (h.trans (.engine t e he)).issue hs (hw _ hlaw)

theorem copyRead_flow (hs : Stirs s → x.stirs) {j : CopyJob} (hj : s.engine = .copying j) {r : ReadResult}
    (hr : ∀ k w, r = .corrected k w → isValid w = true) : Flow x s (s.copyRead j r) := by
  have written : ∀ poison w, (MemKind.mwr w).law → Flow x s (s.writeSpare j poison w) := fun poison w hlaw =>
    (Flow.refl s).engineIssue hw hs (by rw [hj]; rfl) hlaw
  unfold State.copyRead
  split
  · exact written _ _ (law_encode _)
  · next k w => exact written _ _ (.inl (hr k w rfl))
  · exact written _ _ (law_poisonMark _)
  · dsimp only
    split
    · exact (Flow.refl s).engineIssue hw hs (by rw [hj]; rfl) trivial
    · exact (written _ _ (law_poisonMark _)).trans (.log _ _)

theorem copyTimeout_flow (hs : Stirs s → x.stirs) (hb : s.bridge.state ≠ .contain) {j : CopyJob}
    (hj : s.engine = .copying j) : Flow x s (s.copyTimeout j) := by
  unfold State.copyTimeout
  dsimp only
  split
  · exact (Flow.refl s).engineIssue hw hs (by rw [hj]; rfl) trivial
  · refine .trans ?_ (.log _ _)
    exact ((Flow.refl s).release hw hs .engine).trans (.engine _ _ (by rw [role_release hb, hj]; rfl))

theorem endTest_flow (hs : Stirs s → x.stirs) (hb : s.bridge.state ≠ .contain) (hends : x.ends) {t t' : TestJob}
    (ht : s.engine = .testing t) (hi : t'.index = t.index) (hbefore : t'.before = t.before) (r : TestResult) :
    Flow x s (s.endTest t' r) :=
  ((Flow.refl s).release hw hs .engine).trans
    (.finishTest _ t' r (by rw [role_release hb, ht]; simp [role, hi, hbefore]) (.inr hends))

theorem testEnd_flow (hs : Stirs s → x.stirs) (hb : s.bridge.state ≠ .contain) (hends : x.ends) {t : TestJob}
    (ht : s.engine = .testing t) (e : MemEnd) : Flow x s (s.testEnd t e) := by
  have ended := fun r => endTest_flow hw hs hb hends ht rfl rfl r
  unfold State.testEnd
  split
  · exact ended _
  · split
    · exact (Flow.refl s).engineIssue hw hs (by rw [ht]; rfl) trivial
    · unfold State.testRead
      split
      · split
        · refine Flow.requestHold hw (Flow.trans ?_ (.engine _ _ ?_)) hs _ _
          · exact (Flow.refl s).release hw hs .engine
          · rw [role_release hb, ht]; rfl
        · exact ended _
      · exact ended _
    · unfold State.testTimeout
      dsimp only
      split
      · exact (Flow.refl s).engineIssue hw hs (by rw [ht]; rfl) (law_encode _)
      · exact endTest_flow hw hs hb hends ht (by rfl) (by rfl) _

/-- The acknowledgement is that of a copy step's spare write. -/
def CopyAck (s : State) (o : Owner) (e : MemEnd) : Prop := o = .engine ∧ e = .ack ∧ ∃ j, s.engine = .copying j

/-- The acknowledgement is that of the format's last write. -/
def LastFormatAck (s : State) (o : Owner) (e : MemEnd) : Prop :=
  o = .format ∧ e = .ack ∧ ∃ c, s.bridge.cursor = some c ∧ c.line + 1 = s.P * 64

theorem engineEnd_flow (hs : Stirs s → x.stirs) (hb : s.bridge.state ≠ .contain) (hends : x.ends) {e : MemEnd}
    (he : Sound e) (hack : ¬ CopyAck s .engine e) : Flow x s (s.engineEnd e) := by
  unfold State.engineEnd
  split
  · next j hj =>
    split
    · next w r => exact copyRead_flow hw hs hj fun k v h => he w k v (by rw [h])
    · exact absurd ⟨rfl, rfl, j, hj⟩ hack
    · exact copyTimeout_flow hw hs hb hj
  · next t ht => exact testEnd_flow hw hs hb hends ht e
  all_goals exact (Flow.refl s).release hw hs .engine

/-! ### Diagnostics and FORMAT (R133, R182, R183) -/

theorem diagEnd_flow (hs : Stirs s → x.stirs) (e : MemEnd) : Flow x s (s.diagEnd e) := by
  unfold State.diagEnd
  split
  · exact (finishDiag_flow s _ e).release hw hs .diag
  · exact .refl s

theorem formatEnd_flow (hs : Stirs s → x.stirs) {e : MemEnd} (hack : ¬ LastFormatAck s .format e) :
    Flow x s (s.formatEnd e) := by
  have written : ∀ c n, s.bridge.cursor = some c → n = c.line ∨ (n = c.line + 1 ∧ n ≠ s.P * 64) →
      Flow x s (s.formatWrite n) := by
    intro c n hc hn
    refine Flow.issue (r := ⟨.format, .mwr _, n⟩) (t := s.setBridge { s.bridge with cursor := some ⟨n, false⟩ }) ?_ hs
      (hw _ (law_encode _))
    exact .bridge s _ rfl rfl rfl ⟨by simp [hc], by simpa [hc] using hn⟩
  unfold State.formatEnd
  split
  · exact .refl s
  · next c hc =>
    split
    · split
      · next hlast => exact absurd ⟨rfl, rfl, c, hc, hlast⟩ hack
      · next hlast => exact written c _ hc (.inr ⟨rfl, hlast⟩)
    · exact written c _ hc (.inl rfl)
    · exact .refl s

/-! ### All owners -/

/-- An owner is told how its memory operation ended. -/
theorem tellOwner_flow (hs : Stirs s → x.stirs) (hends : x.ends) {o : Owner} {e : MemEnd} (he : Sound e)
    (hcopy : ¬ CopyAck s o e) (hformat : ¬ LastFormatAck s o e) : Flow x s (s.tellOwner o e) := by
  by_cases hb : s.bridge.state = .contain
  · unfold State.tellOwner
    rw [if_pos hb]
    exact endInContain_flow hb hs o e
  · rw [State.tellOwner_of_ne hb]
    cases o with
    | host i => exact hostEnd_flow hw hs i he
    | patrol => exact patrolEnd_flow hw hs he
    | engine => exact engineEnd_flow hw hs hb hends he hcopy
    | diag => exact diagEnd_flow hw hs e
    | format => exact formatEnd_flow hw hs hformat

/-- A timeout is a flow for every owner. -/
theorem tellOwner_timeout_flow (hs : Stirs s → x.stirs) (hends : x.ends) (o : Owner) : Flow x s (s.tellOwner o .timeout) :=
  tellOwner_flow hw hs hends (fun _ _ _ h => by cases h) (by rintro ⟨_, h, _⟩; cases h) (by rintro ⟨_, h, _⟩; cases h)

/-! ### Requests, visits and link resets (R119, R157, R161) -/

omit hw in
theorem stirs_of_inService (h : s.inService = true) : Stirs s := by
  rcases inService_iff.mp h with h | h <;> exact .of_state h

theorem handOn_flow (hs : Stirs s → x.stirs) (hx : x.stirs) (tag : Fin 32) (req : HostReq) (h : Nat) :
    Flow x s (s.handOn tag req h) := by
  refine Flow.requestHold hw (.trans ?_ (.ops _ _ fun _ => .inr hx)) hs _ _
  exact (Flow.count s _).trans (.link _ _)

theorem accept_flow (hs : Stirs s → x.stirs) (tag : Fin 32) (field : BitVec 32) (req : HostReq) :
    Flow x s (s.accept tag field req) := by
  have answer : ∀ st : RespStatus, st ≠ .corrected → Flow x s (s.answerNow tag req st) := fun st hst =>
    (Flow.count s _).trans (send_flow (response_law_zero hst))
  unfold State.accept
  dsimp only
  split
  · exact .count s _
  split
  · exact (Flow.log s _).trans (.count _ _)
  split
  · exact answer _ (by decide)
  split
  · exact answer _ (by decide)
  split
  · exact answer _ (by decide)
  · next hstate _ =>
    exact handOn_flow hw hs (hs (.inl fun h => hstate (by simp [h]))) tag req _

theorem timerRunOut_flow (hs : Stirs s → x.stirs) : Flow x s s.timerRunOut := by
  unfold State.timerRunOut
  split
  · exact .patrol s _ rfl rfl .inl
  split
  · exact .patrol s _ rfl rfl .inl
  split
  · exact .patrol s _ rfl rfl .inl
  split
  · next h => exact (startVisit_flow (hs (stirs_of_inService h)) s).settleKeys hw hs _
  · exact .patrol s _ rfl rfl .inl

omit hw in
/-- What a link reset leaves of the hold table. -/
theorem holdsWithin_linkReset (s : State) :
    HoldsWithin
      { s.order with
        entries := (s.order.entries.filter fun e => !e.droppedByLinkReset).map Hold.orphaned, finished := 0 } s.order := by
  have hkept : ∀ e : Hold, ((Hold.orphaned e).key, (Hold.orphaned e).active) = (e.key, e.active) := by
    intro e; unfold Hold.orphaned; split <;> rfl
  simp only [HoldsWithin, List.map_map, Function.comp_def, hkept]
  exact List.filter_sublist.map _

theorem linkReset_flow (hs : Stirs s → x.stirs) : Flow x s s.linkReset := by
  have hlink : Flow x s (s.setLink { quiesce := true, busy := [] }) := .link s _
  have horder := hlink.trans (.dropHolds _ _ (holdsWithin_linkReset s))
  have hops := horder.trans (.ops _ ((s.ops.filter fun o => o.phase ≠ .waitHold).map fun o => { o with orphan := true })
    fun h => .inl (by rintro h'; simp [show s.ops = [] from h'] at h))
  unfold State.linkReset
  refine Flow.settleKeys hw ?_ hs _
  dsimp only
  split
  · exact hops.trans (portQuiesced_flow _)
  · exact hops

end

end Sys2Proof.Proofs
end

section
/-! Runs: what a command does, as flows and the changes that only some commands make. Each change names the commands that make it,
so that what no command of a kind does need not be looked for in the others. -/

-- Fewer threads at once: each takes a part of the memory that a check of the whole text may use.
set_option Elab.async false

namespace Sys2Proof.Proofs

open Sys2Proof Sys2Proof.Machine

/-! ### The relation -/

/-- The command comes in a frame (R174). -/
def Framed (c : Instr) : Prop := (frameParts c).isSome = true ∨ ∃ f, c = .frameRejected f

/-- The commands that change the map, or take a spare or a job. -/
def Repairs : Instr → Prop
  | .writeAck _ _ | .jobStart | .mapLoad _ _ | .spareMarkBad _ | .spareTest _ => True
  | _ => False

/-- The commands that change single entries of the Suspect Table, or take what was handed to the Health Tracker. -/
def Tracks : Instr → Prop
  | .reportTaken | .passEndNotice | .strandedNotice | .removalNotice | .suspectClear _ _ => True
  | _ => False

/-- Each entry the map finds for a region stays found, with its region and origin. -/
def MapStays (m m' : List MapEntry) : Prop :=
  ∀ r e, findEntry m r = some e → ∃ e', findEntry m' r = some e' ∧ e'.region = e.region ∧ e'.origin = e.origin

/-- The change keeps Bridge Control's own law, in an array of any size. -/
def BridgeKeeps (b b' : Bridge) : Prop := ∀ P, 0 < P → b.law P → b'.law P

/-- A request of the right kind for a host region (R40, R106). -/
def Asks (s : State) (r : Request) : Prop :=
  (r.kind = .retire ∧ r.region < s.V ∧ findEntry s.map r.region = none) ∨
    (r.kind = .replace ∧ ∃ e ∈ s.map, e.region = r.region)

/-- What a command does, but for the hard reset. -/
inductive Run (c : Instr) (x : Scope) : State → State → Prop
  | flow {s t : State} (h : Flow x s t) : Run c x s t
  | trans {s t u : State} : Run c x s t → Run c x t u → Run c x s u
  | reply (s : State) (st : Status) (b : List Byte) (h : Framed c) : Run c x s (s.reply st b)
  | complete (s : State) (g : Fin 64) : Run c x s (s.complete g)
  | quarantine (s : State) (g : Fin 64) (h : ∃ a ∈ s.mem.active, a.tag = g) : Run c x s (s.quarantineTag g)
  | freeTag (s : State) (g : Fin 64) : Run c x s (s.setMem { s.mem with quarantine := s.mem.quarantine.filter (· ≠ g) })
  | clearDeferred (s : State) : Run c x s s.clearDeferred
  | map (s : State) (m : List MapEntry) (hc : Repairs c) (hb : s.bridge.state ≠ .contain) (hm : MapStays s.map m) :
      Run c x s (s.setMap m)
  | spares (s : State) (l : List SpareState) (hc : Repairs c) : Run c x s (s.setSpares l)
  | queue (s : State) (l : List Request) (hc : Repairs c) : Run c x s (s.setQueue l)
  | engine (s : State) (e : EngineState) (hc : Repairs c) : Run c x s (s.setEngine e)
  | halt (s : State) (hb : s.bridge.state = .contain) : Run c x s (s.setEngine s.engine.halt)
  | submit (s : State) (r : Request) (h : x.stirs) (hr : Asks s r) (ha : s.submission r.region = .accepted) :
      Run c x s (s.setQueue (s.queue ++ [r]))
  | suspects (s : State) (l : List Suspect) (hc : Tracks c) : Run c x s (s.setSuspects l)
  | inbox (s : State) (l : List Handed) (hc : Tracks c) (hl : l ⊆ s.inbox) : Run c x s (s.setInbox l)
  | free (s : State) (n : Nat) : Run c x s (s.setFree n)
  | bridge (s : State) (b : Bridge) (hs : b.state = s.bridge.state) (hh : b.history = s.bridge.history)
      (hb : BridgeKeeps s.bridge b) : Run c x s (s.setBridge b)
  | change (s : State) (b : Bridge) (e : Event) (hs : s.bridge.state ≠ .contain) (hn : b.state ≠ .standby)
      (hb : BridgeKeeps s.bridge b) : Run c x s ((s.setBridge b).logEvent e)
  | param (s : State) (p : Params) (hc : ∃ i v, c = .configSet i v) (hl : s.mgmt.params.law → p.law)
      (hP : p.memRegions = s.mgmt.params.memRegions) (hS : p.spareCount = s.mgmt.params.spareCount)
      (ha : p.alertLevel = s.mgmt.params.alertLevel) : Run c x s (s.setMgmt { s.mgmt with params := p })
  | alertLevel (s : State) (p : Params) (hc : ∃ i v, c = .configSet i v) (hl : s.mgmt.params.law → p.law)
      (hP : p.memRegions = s.mgmt.params.memRegions) (hS : p.spareCount = s.mgmt.params.spareCount) :
      Run c x s (s.setMgmt { s.mgmt with params := p }).refreshAlert
  | geometry (s : State) (i : Byte) (v : Nat) (hc : ∃ i v, c = .configSet i v) (hl : s.mgmt.params.law → (s.mgmt.params.set i.toNat v).law)
      (ha : (s.mgmt.params.set i.toNat v).alertLevel = s.mgmt.params.alertLevel)
      (hb : s.bridge.state = .standby) (hm : s.map = []) : Run c x s (s.setParam i v).geometryChange
  | popped (s : State) (r : EventRecord) (rest : List EventRecord) (h : s.ev.queue = r :: rest) :
      Run c x s (s.setEv (s.ev.popped s.patrol.pass rest)).refreshAlert
  | swap (s : State) (hc : c = .diagSwap) :
      Run c x s (s.setMgmt { s.mgmt with view := s.mgmt.fill, fill := s.mgmt.view })
  | arranged {s t : State} (key : Response → Nat) (h : Run c x (s.setHostOut []) t) :
      Run c x s (t.setHostOut (s.hostOut ++ arrange key t.hostOut))
  | softReset (s : State) (hc : c = .softReset) : Run c x s s.softReset

variable {c : Instr} {x : Scope} {s t : State}

theorem Run.refl (s : State) : Run c x s s := .flow (.refl s)

/-! ### RESET_N low (R185) -/

/-- While RESET_N is low only HARD_RESET is taken. -/
theorem exec_of_held (h : s.resetLow = true) (hc : ∀ edge straps, c ≠ .hardReset edge straps) : exec c s = .next s := by
  cases c with
  | hardReset edge straps => exact absurd rfl (hc edge straps)
  | _ => exact State.unlessHeld_of_low h _

/-! ### Memory answers and timeouts (R166 to R170) -/

/-- What a run's flows are allowed: every codeword of the code, the end of a spare test, and to stir where the state does. -/
structure Fits (x : Scope) (s : State) : Prop where
  coded : x.Coded
  ends : x.ends
  stirs : Stirs s → x.stirs

theorem Fits.flow (hx : Fits x s) (h : Flow x s t) : Fits x t := ⟨hx.coded, hx.ends, h.stirs hx.stirs⟩

theorem Fits.of {u : State} (hx : Fits x s) (hb : u.bridge.state = s.bridge.state) (ho : u.ops = s.ops)
    (hp : u.patrol.visit = s.patrol.visit) : Fits x u :=
  ⟨hx.coded, hx.ends, fun h => hx.stirs (by unfold Stirs at h ⊢; rwa [hb, ho, hp] at h)⟩

/-- The state before a bridge change keeps Bridge Control's law, as the history is cut at four states. -/
theorem BridgeKeeps.of_fields {b b' : Bridge} (hh : b'.history.length ≤ 4)
    (hr : (∀ r ∈ b.record, r.history.length ≤ 4 ∧ r.laterCount ≤ 255) → ∀ r ∈ b'.record, r.history.length ≤ 4 ∧ r.laterCount ≤ 255)
    (hc : (b.cursor.isSome ↔ b.state = .format) → (b'.cursor.isSome ↔ b'.state = .format)) (hl : ∀ k ∈ b'.cursor, k.line = 0) :
    BridgeKeeps b b' := by
  rintro P hP ⟨h1, h2, h3, h4⟩
  exact ⟨hh, hr h2, hc h3, fun k hk => by rw [hl k hk]; omega⟩

/-- FORMAT_DONE and the change to ONLINE, the cursor gone with it. -/
theorem formatDone_eq (s : State) : s.formatDone =
    ((s.logEvent .formatDone).setBridge
      { s.bridge with
        state := .online, history := pushHistory s.bridge.state s.bridge.history, cursor := none }).logEvent
      (.stateChanged s.bridge.state .online) := rfl

theorem formatDone_run (hb : s.bridge.state ≠ .contain) : Run c x s s.formatDone := by
  rw [formatDone_eq]
  refine .trans (.flow (.log s _)) (.change _ _ _ hb (by simp) ?_)
  exact .of_fields (pushHistory_length _ _) id (fun _ => by simp) (by simp)

theorem findEntry_updateEntry {m : List MapEntry} {q : Nat} {f : MapEntry → MapEntry} (hf : ∀ e, (f e).region = e.region)
    (r : Nat) : findEntry (updateEntry m q f) r = (findEntry m r).map fun e => if e.region = q then f e else e := by
  induction m with
  | nil => rfl
  | cons e m ih =>
    have hkept : (if e.region = q then f e else e).region = e.region := by split <;> simp [hf]
    simp only [findEntry, updateEntry, List.map_cons, List.find?_cons, hkept] at ih ⊢
    split
    · rfl
    · exact ih

theorem mapStays_updateEntry (m : List MapEntry) (q : Nat) {f : MapEntry → MapEntry} (hf : ∀ e, (f e).region = e.region)
    (ho : ∀ e, (f e).origin = e.origin) : MapStays m (updateEntry m q f) := by
  intro r e h
  refine ⟨if e.region = q then f e else e, by rw [findEntry_updateEntry hf, h]; rfl, ?_⟩
  split <;> simp [hf, ho]

@[simp] theorem advanceEntry_region (b : Bool) (e : MapEntry) : (advanceEntry b e).region = e.region := by
  unfold advanceEntry; split <;> rfl
@[simp] theorem advanceEntry_origin (b : Bool) (e : MapEntry) : (advanceEntry b e).origin = e.origin := by
  unfold advanceEntry; split <;> rfl
@[simp] theorem completeEntry_region (b : Bool) (e : MapEntry) : (completeEntry b e).region = e.region := by
  unfold completeEntry; split <;> rfl
@[simp] theorem completeEntry_origin (b : Bool) (e : MapEntry) : (completeEntry b e).origin = e.origin := by
  unfold completeEntry; split <;> rfl

/-- A new entry for a region that the map has none for leaves the others found. -/
theorem findEntry_insertEntry {m : List MapEntry} {e : MapEntry} {r : Nat} (h : e.region ≠ r) :
    findEntry (insertEntry e m) r = findEntry m r := by
  induction m with
  | nil => simp [insertEntry, findEntry, h]
  | cons y m ih =>
    rw [insertEntry]
    split
    · simp [findEntry, h]
    · simp only [findEntry, List.find?_cons] at ih ⊢
      split
      · rfl
      · exact ih

theorem mapStays_insertEntry {m : List MapEntry} {e : MapEntry} (h : findEntry m e.region = none) :
    MapStays m (insertEntry e m) := by
  intro r e' he'
  have hr : e.region ≠ r := by rintro rfl; rw [h] at he'; cases he'
  exact ⟨e', by rw [findEntry_insertEntry hr, he'], rfl, rfl⟩

/-- The step of a job's cursor line begins: with a new job, or one that goes on. -/
theorem beginStep_run (hc : Repairs c) (hx : Fits x s) (j : CopyJob) : Run c x s (s.beginStep j) := by
  refine .trans (.engine s (.copying { j with phase := .waitHold }) hc) (.flow ?_)
  refine Flow.requestHold hx.coded (.refl _) ?_ _ _
  exact (hx.of rfl rfl rfl).stirs

theorem copyAck_run (hc : Repairs c) (hx : Fits x s) (hb : s.bridge.state ≠ .contain) (j : CopyJob)
    (hstirs : x.stirs) : Run c x s (s.copyAck j) := by
  unfold State.copyAck
  split
  · have hmap : Run c x s (s.setMap (updateEntry s.map j.region (advanceEntry j.poison))) :=
      .map s _ hc hb (mapStays_updateEntry _ _ (by simp) (by simp))
    have hfits : Fits x (s.setMap (updateEntry s.map j.region (advanceEntry j.poison))) := hx.of rfl rfl rfl
    have hrelease := (Flow.refl _).release hfits.coded hfits.stirs .engine
    exact (hmap.trans (.flow hrelease)).trans (beginStep_run hc (hfits.flow hrelease) _)
  · have hmap : Run c x s (s.completeMap j) := by
      have hentry : Run c x s (s.setMap (updateEntry s.map j.region (completeEntry j.poison))) :=
        .map s _ hc hb (mapStays_updateEntry _ _ (by simp) (by simp))
      unfold State.completeMap
      dsimp only
      split
      · exact hentry.trans (.spares _ _ hc)
      · exact hentry
    have hfits : Fits x (s.completeMap j) := by
      unfold State.completeMap
      dsimp only
      split
      · exact hx.of rfl rfl rfl
      · exact hx.of rfl rfl rfl
    have hrelease := (Flow.refl _).release hfits.coded hfits.stirs .engine
    exact hmap.trans <| (Run.flow (hrelease.trans ((Flow.log _ _).trans (.hand _ _ hstirs)))).trans (.engine _ _ hc)

/-- An owner is told how its memory operation ended. -/
theorem tellOwner_run (hx : Fits x s) {o : Owner} {e : MemEnd} (he : Sound e)
    (hc : CopyAck s o e → s.bridge.state ≠ .contain → Repairs c ∧ x.stirs) : Run c x s (s.tellOwner o e) := by
  by_cases hb : s.bridge.state = .contain
  · refine .flow ?_
    unfold State.tellOwner
    rw [if_pos hb]
    exact endInContain_flow hb hx.stirs o e
  by_cases hcopy : CopyAck s o e
  · obtain ⟨hrepairs, hstirs⟩ := hc hcopy hb
    obtain ⟨rfl, rfl, j, h⟩ := hcopy
    rw [State.tellOwner_of_ne hb]
    simp only [State.engineEnd, h]
    exact copyAck_run hrepairs hx hb j hstirs
  by_cases hformat : LastFormatAck s o e
  · obtain ⟨rfl, rfl, k, h, hlast⟩ := hformat
    rw [State.tellOwner_of_ne hb]
    simp only [State.formatEnd, h, hlast, if_true]
    exact formatDone_run hb
  exact .flow (tellOwner_flow hx.coded hx.stirs hx.ends he hcopy hformat)

end Sys2Proof.Proofs
end

section
/-! The commands of the Memory Port, the Health Tracker, the Repair Engine, Bridge Control and the Management Port as runs. -/

-- Fewer threads at once: each takes a part of the memory that a check of the whole text may use.
set_option Elab.async false

namespace Sys2Proof.Proofs

open Sys2Proof Sys2Proof.Machine

variable {c : Instr} {x : Scope} {s t : State}

/-! ### Folds -/

/-- A fold whose every step is a flow, from states that have what each step needs. -/
theorem foldl_flow {α : Type} {P : State → Prop} {f : State → α → State} (hkeep : ∀ u v, Flow x u v → P u → P v)
    (l : List α) (hf : ∀ u, ∀ a ∈ l, P u → Flow x u (f u a)) (hs : P s) : Flow x s (l.foldl f s) := by
  induction l generalizing s with
  | nil => exact .refl s
  | cons a l ih =>
    have hstep := hf s a (by simp) hs
    exact hstep.trans (ih (fun u b hb => hf u b (by simp [hb])) (hkeep _ _ hstep hs))

/-! ### Memory Port (R166 to R170) -/

theorem mem_active_of_activeOf {g : Fin 64} {a : ActiveOp} (h : s.activeOf g = some a) : a ∈ s.mem.active ∧ a.tag = g :=
  ⟨List.mem_of_find?_eq_some h, by simpa using List.find?_some h⟩

theorem handFromMemory_flow (s : State) (r : ContainRequest) : Flow x s (s.handFromMemory r) :=
  .bridge s _ rfl rfl rfl ⟨rfl, fun k hk => ⟨k, hk, .inl rfl⟩⟩

theorem raiseFaults_flow (s : State) (line : Nat) : Flow x s (s.raiseFaults line) := by
  have hlimit : Flow x s
      (if s.mgmt.params.dsFaultLimit ≤ s.mem.faults then s.handFromMemory ⟨.dsFaultLimit, some line⟩ else s) := by
    split
    · exact handFromMemory_flow s _
    · exact .refl s
  unfold State.raiseFaults
  dsimp only
  generalize (if s.mgmt.params.dsFaultLimit ≤ s.mem.faults then
    s.handFromMemory ⟨.dsFaultLimit, some line⟩ else s) = u at hlimit ⊢
  split
  · exact hlimit.trans (handFromMemory_flow _ _)
  · exact hlimit

theorem timeOut_run (hx : Fits x s) {a : ActiveOp} (ha : a ∈ s.mem.active) : Run c x s (s.timeOut a) := by
  have htold := tellOwner_timeout_flow hx.coded hx.stirs hx.ends a.owner
  refine .trans (.flow htold) (.trans (.quarantine _ a.tag ⟨a, htold.active ha, rfl⟩) (.flow ?_))
  exact (Flow.log _ _).trans ((Flow.count _ _).trans (raiseFaults_flow _ _))

/-- Every deferred request asks for a memory operation that the scope allows. -/
def DeferredFit (x : Scope) (s : State) : Prop := ∀ r ∈ s.mem.deferred, x.writes r.kind

theorem issueDeferred_run (hx : Fits x s) (hd : DeferredFit x s) : Run c x s s.issueDeferred := by
  refine .trans (.clearDeferred s) (.flow ?_)
  exact foldl_flow (P := Fits x) (fun _ _ h hu => hu.flow h) _ (fun u r hr hu => issue_flow hu.stirs (hd r hr))
    (hx.of rfl rfl rfl)

theorem lateAnswer_run (hx : Fits x s) (hd : DeferredFit x s) (gen : Byte) (g : Fin 64) :
    Run c x s (s.lateAnswer gen g) := by
  have hcounted : Run c x s (s.count Counters.bumpLateAnswers) := .flow (.count s _)
  unfold State.lateAnswer
  dsimp only
  split
  · have hfreed := hcounted.trans (.freeTag _ g)
    split
    · exact hfreed.trans (issueDeferred_run (hx.of rfl rfl rfl) hd)
    · exact hfreed
  · exact hcounted

/-! ### Health Tracker (R101 to R108) -/

theorem putSuspect_run (hc : Tracks c) (s : State) (e : Suspect) : Run c x s (s.putSuspect e) := .suspects s _ hc

theorem submit_run (hx : x.stirs) {s : State} {r : Request} (hr : Asks s r) : Run c x s (s.submit r) := by
  unfold State.submit
  split
  · next h => exact .trans (.submit s r hx hr h) (.flow (.log _ _))
  · exact .refl s

theorem submitFor_run (hx : x.stirs) (ht : Tracks c) {s : State} (e : Suspect) {r : Request} (hr : Asks s r) :
    Run c x s (s.submitFor e r) := by
  unfold State.submitFor
  split
  · exact (submit_run hx hr).trans (putSuspect_run ht _ _)
  · exact putSuspect_run ht s _
  · exact .flow (.log s _)

theorem asks_of_unmapped {q r : Nat} (h : s.relation q = .unmapped r) : Asks s ⟨r, .retire, .health⟩ := by
  unfold State.relation relationOf at h
  split at h
  · cases h
  split at h
  · cases h
  split at h
  · next hq =>
    split at h
    · next hnone =>
      cases h
      exact .inl ⟨rfl, hq, hnone⟩
    · cases h
  · split at h <;> cases h

theorem asks_of_inService {q r : Nat} (h : s.relation q = .inService r) : Asks s ⟨r, .replace, .health⟩ := by
  unfold State.relation relationOf at h
  split at h
  · cases h
  split at h
  · cases h
  split at h
  · split at h <;> cases h
  · split at h
    · next e he =>
      cases h
      exact .inr ⟨rfl, e, List.mem_of_find?_eq_some he, rfl⟩
    · cases h

theorem fire_run (hx : x.stirs) (ht : Tracks c) (s : State) (e : Suspect) : Run c x s (s.fire e) := by
  unfold State.fire
  split
  · split
    · next h => exact submitFor_run hx ht e (asks_of_unmapped h)
    · next h => exact submitFor_run hx ht e (asks_of_inService h)
    all_goals exact .refl s
  · exact .trans (.flow (.log s _)) (putSuspect_run ht _ _)

theorem updateSuspect_run (hx : x.stirs) (ht : Tracks c) (s : State) (e : Suspect) (k : ReportKind) :
    Run c x s (s.updateSuspect e k) := by
  unfold State.updateSuspect
  dsimp only
  split
  · exact (putSuspect_run ht s _).trans (fire_run hx ht _ _)
  · exact putSuspect_run ht s _

theorem createSuspect_run (hx : x.stirs) (ht : Tracks c) (s : State) (q : Nat) (k : ReportKind) :
    Run c x s (s.createSuspect q k) :=
  .trans (.suspects s _ ht) (updateSuspect_run hx ht _ _ _)

theorem newReport_run (hx : x.stirs) (ht : Tracks c) (s : State) (q : Nat) (k : ReportKind) :
    Run c x s (s.newReport q k) := by
  unfold State.newReport
  split
  · exact createSuspect_run hx ht s q k
  · split
    · exact .trans (.suspects s _ ht) (.trans (.flow (.log _ _)) (createSuspect_run hx ht _ q k))
    · exact .flow (.log s _)

theorem correctedEvent_flow (s : State) (r : Report) : Flow x s (s.correctedEvent r) := by
  unfold State.correctedEvent
  split
  · split
    · exact .log s _
    · exact .refl s
  all_goals exact .refl s

theorem takeReport_run (hx : x.stirs) (ht : Tracks c) (s : State) (r : Report) : Run c x s (s.takeReport r) := by
  unfold State.takeReport
  dsimp only
  split
  · exact .refl s
  · refine .trans (.flow (correctedEvent_flow s r)) ?_
    split
    · exact updateSuspect_run hx ht _ _ _
    · exact newReport_run hx ht _ _ _

/-- Taking an item leaves the others handed. -/
theorem takeFirst_eq_append {want : Handed → Bool} {l before after : List Handed} {y : Handed}
    (h : takeFirst want l = some (before, y, after)) : l = before ++ y :: after := by
  induction l generalizing before with
  | nil => cases h
  | cons z l ih =>
    rw [takeFirst] at h
    split at h
    · cases h; rfl
    · cases hl : takeFirst want l with
      | none => simp [hl] at h
      | some r =>
        obtain ⟨before', y', after'⟩ := r
        simp only [hl, Option.map_some, Option.some.injEq, Prod.mk.injEq] at h
        obtain ⟨rfl, rfl, rfl⟩ := h
        rw [ih hl]; rfl

theorem takeFirst_subset {want : Handed → Bool} {l before after : List Handed} {y : Handed}
    (h : takeFirst want l = some (before, y, after)) : before ++ after ⊆ l := by
  rw [takeFirst_eq_append h]
  intro z hz
  simp only [List.mem_append, List.mem_cons] at hz ⊢
  tauto

/-! ### Job start (R43 to R47) -/

theorem changeBridge_run (hb : s.bridge.state ≠ .contain) {b : BridgeState} (h : s.bridge.state ≠ .format)
    (h' : b ≠ .format) (hn : b ≠ .standby) : Run c x s (s.changeBridge b) := by
  refine .change s _ _ hb hn ?_
  rintro P hP ⟨-, h2, h3, h4⟩
  exact ⟨pushHistory_length _ _, h2, by simp [h3, h, h'], h4⟩

theorem spareAllocated_run (s : State) : Run c x s s.spareAllocated := by
  unfold State.spareAllocated
  split
  · next h => exact changeBridge_run (by simp [h]) (by simp [h]) (by simp) (by simp)
  · exact .refl s

theorem refuseJob_run (hx : x.stirs) (s : State) (r : Request) (q : Nat) : Run c x s (s.refuseJob r q) := by
  have hlog : Run c x s (s.logEvent (.noSpare r.region r.kind)) := .flow (.log s _)
  have hhand (u : State) : Run c x u (u.setInbox (u.inbox ++ [.stranded q])) := .flow (.hand u _ hx)
  have hdegraded : Run c x (s.logEvent (.noSpare r.region r.kind))
      (if (s.logEvent (.noSpare r.region r.kind)).bridge.state = .online then
        (s.logEvent (.noSpare r.region r.kind)).changeBridge .degraded else s.logEvent (.noSpare r.region r.kind)) := by
    split
    · next h => exact changeBridge_run (by rw [h]; decide) (by rw [h]; decide) (by decide) (by decide)
    · exact .refl _
  exact (hlog.trans hdegraded).trans (hhand _)

/-- What an allocation does before its first step: the pool's record, the map's entry, JOB_STARTED, and the bridge state. -/
theorem allocated_run (hc : Repairs c) (hx : Fits x s) (hb : s.bridge.state ≠ .contain) (hstirs : x.stirs) (i : Nat)
    {m : List MapEntry} (hm : MapStays s.map m) (e : Event) (j : CopyJob) :
    Run c x s (((((s.setSpare i .inUse).setMap m).logEvent e).spareAllocated).beginStep j) := by
  have hset : Run c x s ((s.setSpare i .inUse).setMap m) := .trans (.spares s _ hc) (.map _ m hc hb hm)
  have halloc := (hset.trans (.flow (.log _ e))).trans (spareAllocated_run _)
  exact halloc.trans (beginStep_run hc ⟨hx.coded, hx.ends, fun _ => hstirs⟩ j)

theorem startRetire_run (hc : Repairs c) (hx : Fits x s) (hb : s.bridge.state ≠ .contain) (hstirs : x.stirs) (r : Request) :
    Run c x s (s.startRetire r) := by
  unfold State.startRetire
  split
  · exact .refl _
  · next hnone =>
    split
    · exact allocated_run hc hx hb hstirs _ (mapStays_insertEntry hnone) _ _
    · exact refuseJob_run hstirs _ _ _

theorem startReplace_run (hc : Repairs c) (hx : Fits x s) (hb : s.bridge.state ≠ .contain) (hstirs : x.stirs) (r : Request) :
    Run c x s (s.startReplace r) := by
  have hconvert (j : Nat) : MapStays s.map (updateEntry s.map r.region (convertEntry s.V j)) :=
    mapStays_updateEntry _ _ (fun _ => rfl) fun _ => rfl
  unfold State.startReplace
  split
  · exact .refl _
  · split
    · next j _ => exact allocated_run hc hx hb hstirs j (hconvert j) _ _
    · exact refuseJob_run hstirs _ _ _

theorem startJob_run (hc : Repairs c) (hx : Fits x s) (h : s.inService = true) : Run c x s s.startJob := by
  have hstirs := hx.stirs (stirs_of_inService h)
  have hb : s.bridge.state ≠ .contain := (State.inService_of (inService_iff.mp h)).1
  unfold State.startJob
  split
  · unfold State.resumeEntry
    split
    · exact .refl s
    · exact .trans (.flow (.log s _)) (beginStep_run hc (hx.flow (.log s _)) _)
  · split
    · exact .refl s
    · next r rest _ =>
      have hqueue : Run c x s (s.setQueue rest) := .queue s rest hc
      have hfits : Fits x (s.setQueue rest) := hx.of rfl rfl rfl
      split
      · exact hqueue.trans (startRetire_run hc hfits hb hstirs r)
      · exact hqueue.trans (startReplace_run hc hfits hb hstirs r)

/-! ### Bridge Control (R132, R136 to R141) -/

theorem withdrawn_flow (h : s.bridge.state = .contain ∨ x.ends) (o : Owner) : Flow x s (s.withdrawn o) := by
  unfold State.withdrawn
  split
  · split
    · exact (respond_zero_flow s _).trans (endHostOp_flow _ _)
    · exact .refl s
  · exact .patrol s _ rfl rfl fun h => absurd rfl h
  · split
    · next t ht => exact .finishTest s t _ (by rw [ht]) h
    · exact .refl s
  · exact .mgmt s _ rfl rfl rfl rfl
  · exact .refl s

theorem containOwner_flow (hb : s.bridge.state = .contain) (hs : Stirs s → x.stirs) (l : List Owner) (o : Owner) :
    Flow x s (State.containOwner l s o) := by
  unfold State.containOwner
  split
  · exact withdrawn_flow (.inl hb) o
  · exact endInContain_flow hb hs o _

theorem withdrawWaiting_flow (s : State) : Flow x s s.withdrawWaiting :=
  .dropHolds s _ (.of_sublist List.filter_sublist)

theorem enterContainControl_eq (s : State) (r : ContainRequest) :
    let h := pushHistory s.bridge.state s.bridge.history
    s.enterContainControl r =
      ((s.setBridge
        { s.bridge with
          state := .contain, history := h, cursor := none
          record := some ⟨true, r.cause, r.line, h, s.patrol.pass, 0, none⟩ }).logEvent
        (.stateChanged s.bridge.state .contain)).logEvent (.contained r.cause) := rfl

theorem enterContainControl_run (hb : s.bridge.state ≠ .contain) (r : ContainRequest) :
    Run c x s (s.enterContainControl r) := by
  rw [enterContainControl_eq]
  refine .trans (.change s _ _ hb (by simp) ?_) (.flow (.log _ _))
  exact .of_fields (pushHistory_length _ _) (fun _ => by simp [pushHistory_length]) (fun _ => by simp) (by simp)

/-- The state as the blocks find it at entry into CONTAIN: nothing waits, nothing is deferred, the copy job is HALTED and the
patrol's timer is stopped. -/
def quieted (s : State) : State :=
  let u := (s.setFree (s.free + 2)).withdrawWaiting.clearDeferred
  (u.setEngine u.engine.halt).setPatrol u.patrol.stop

/-- The owners act in their order, their responses collected apart. -/
def ownersTold (s : State) : State :=
  let waiting := s.waitingOwners
  let quiet := waiting.filter (· ≠ .engine)
  let loud := arrange (fun o => Config.order s.free o.number)
    (waiting.filter (· = .engine) ++ s.mem.deferred.map (·.owner))
  loud.foldl (State.containOwner waiting) (quiet.foldl (State.containOwner waiting) ((quieted s).setHostOut []))

theorem enterContainBlocks_eq (s : State) : s.enterContainBlocks =
    (ownersTold s).setHostOut
      (s.hostOut ++ arrange (fun r => Config.order (s.free + 1) r.tag.val) (ownersTold s).hostOut) := rfl

theorem quieted_run (hb : s.bridge.state = .contain) : Run c x s (quieted s) := by
  refine .trans (.trans (.trans (.free s (s.free + 2)) (.flow (withdrawWaiting_flow _))) (.clearDeferred _)) ?_
  exact .trans (.halt _ hb) (.flow (.patrol _ _ rfl rfl .inl))

theorem ownersTold_flow (hb : s.bridge.state = .contain) (hx : x.stirs) :
    Flow x ((quieted s).setHostOut []) (ownersTold s) := by
  let P : State → Prop := fun u => u.bridge.state = .contain
  have hkeep : ∀ u v, Flow x u v → P u → P v := fun u v h hu => h.base.state.trans hu
  have hquiet : Flow x ((quieted s).setHostOut [])
      ((s.waitingOwners.filter (· ≠ .engine)).foldl (State.containOwner s.waitingOwners) ((quieted s).setHostOut [])) :=
    foldl_flow (P := P) hkeep _ (fun u o _ hu => containOwner_flow hu (fun _ => hx) _ o) hb
  exact hquiet.trans (foldl_flow (P := P) hkeep _ (fun u o _ hu => containOwner_flow hu (fun _ => hx) _ o)
    (hkeep _ _ hquiet hb))

theorem enterContain_run (hb : s.bridge.state ≠ .contain) (hx : x.stirs) (r : ContainRequest) :
    Run c x s (s.enterContain r) := by
  refine .trans (enterContainControl_run hb r) ?_
  unfold State.enterContain
  rw [enterContainBlocks_eq]
  exact .trans (quieted_run rfl) (.arranged _ (.flow (ownersTold_flow rfl hx)))

theorem laterCause_run (s : State) (k : Cause) : Run c x s (s.laterCause k) := by
  refine .bridge s _ rfl rfl ?_
  rintro P hP ⟨h1, h2, h3, h4⟩
  refine ⟨h1, ?_, h3, h4⟩
  simp only [Option.mem_def, Option.map_eq_some_iff, forall_exists_index, and_imp] at h2 ⊢
  rintro r r' hr' rfl
  refine ⟨(h2 r' hr').1, ?_⟩
  have := (h2 r' hr').2
  simp only [satSucc]
  split <;> omega

theorem takeContainment_run (hx : Fits x s) (r : ContainRequest) : Run c x s (s.takeContainment r) := by
  unfold State.takeContainment
  split
  · exact .refl s
  · exact laterCause_run s _
  all_goals next h => exact enterContain_run (by simp [h]) (hx.stirs (.of_state h)) r

theorem raiseStuck_flow (s : State) : Flow x s s.raiseStuck := by
  unfold State.raiseStuck
  split
  · exact handFromMemory_flow s _
  · exact .refl s

/-- The change to FORMAT, the cursor set with it. -/
theorem toFormat_eq (s : State) :
    ((s.changeBridge .format).setBridge { (s.changeBridge .format).bridge with cursor := some ⟨0, true⟩ }) =
      (s.setBridge
        { s.bridge with
          state := .format, history := pushHistory s.bridge.state s.bridge.history, cursor := some ⟨0, true⟩ }).logEvent
        (.stateChanged s.bridge.state .format) := rfl

/-- FORMAT entered, before anything is withdrawn (R133, R169). -/
def formatEntered (s : State) : State :=
  ((s.changeBridge .format).setBridge { (s.changeBridge .format).bridge with cursor := some ⟨0, true⟩ }).raiseStuck

theorem formatEntered_run (hb : s.bridge.state ≠ .contain) : Run c x s (formatEntered s) := by
  refine .trans ?_ (.flow (raiseStuck_flow _))
  rw [toFormat_eq]
  exact .change s _ _ hb (by simp) (.of_fields (pushHistory_length _ _) id (fun _ => by simp) (by simp))

/-- What waits is withdrawn, what is deferred ends as TIMEOUT, and the first write may be asked for (R75, R133, R170). -/
theorem enterFormat_rest_run (hx : x.Coded) (hends : x.ends) (hstirs : x.stirs) : Run c x (formatEntered s) s.enterFormat := by
  let u := formatEntered s
  have hcleared : Run c x u u.withdrawWaiting.clearDeferred := .trans (.flow (withdrawWaiting_flow u)) (.clearDeferred _)
  have hwithdrawn : Flow x u.withdrawWaiting.clearDeferred (u.waitingOwners.foldl State.withdrawn u.withdrawWaiting.clearDeferred) :=
    foldl_flow (P := fun _ => True) (fun _ _ _ _ => trivial) _ (fun v o _ _ => withdrawn_flow (.inr hends) o) trivial
  have htold := hwithdrawn.trans
    (foldl_flow (P := fun _ => True) (f := fun v o => v.tellOwner o .timeout) (fun _ _ _ _ => trivial)
      (u.mem.deferred.map (·.owner)) (fun v o _ _ => tellOwner_timeout_flow hx (fun _ => hstirs) hends o) trivial)
  exact hcleared.trans (.flow (htold.formatNotice hx fun _ => hstirs))

theorem enterFormat_run (hx : x.Coded) (hends : x.ends) (hstirs : x.stirs) (hb : s.bridge.state ≠ .contain) :
    Run c x s s.enterFormat :=
  (formatEntered_run hb).trans (enterFormat_rest_run hx hends hstirs)

/-! ### Management Port and the other commands -/

theorem startDiag_flow (hx : Fits x s) (k : DiagKind) (p : Nat) : Flow x s (s.startDiag k p) := by
  refine Flow.requestHold hx.coded ?_ hx.stirs _ _
  exact .mgmt s _ rfl rfl rfl rfl

theorem startTest_run (hc : Repairs c) (hx : Fits x s) (i : Nat) (before : SpareState) : Run c x s (s.startTest i before) := by
  have hset : Run c x s ((s.setSpare i .testing).setEngine (.testing ⟨i, 0, .waitHold, 0, before⟩)) :=
    .trans (.spares s _ hc) (.engine _ _ hc)
  have hfits : Fits x ((s.setSpare i .testing).setEngine (.testing ⟨i, 0, .waitHold, 0, before⟩)) := hx.of rfl rfl rfl
  exact hset.trans (.flow ((Flow.refl _).requestHold hfits.coded hfits.stirs _ _))

theorem loadMap_run (hc : Repairs c) (hb : s.bridge.state ≠ .contain) {r : Nat} (h : findEntry s.map r = none) (i : Nat) :
    Run c x s (s.loadMap r i) :=
  .trans (.map s _ hc hb (mapStays_insertEntry h)) (.spares _ _ hc)

end Sys2Proof.Proofs
end

section
/-! Every command but HARD_RESET is a run. -/

-- Fewer threads at once: each takes a part of the memory that a check of the whole text may use.
set_option Elab.async false

namespace Sys2Proof.Proofs

open Sys2Proof Sys2Proof.Machine

variable {c : Instr} {x : Scope} {s t : State}

/-- Whatever state the outcome names, it is the end of a run. -/
def Runs (c : Instr) (x : Scope) (s : State) (o : Host.Outcome State Fault Refusal) : Prop := ∀ t, o = .next t → Run c x s t

theorem Runs.next (h : Run c x s t) : Runs c x s (.next t) := by rintro u ⟨⟩; exact h

theorem Runs.unlessHeld {o : Host.Outcome State Fault Refusal} (h : Runs c x s o) : Runs c x s (s.unlessHeld o) := by
  cases hlow : s.resetLow with
  | true => rw [State.unlessHeld_of_low hlow]; exact .next (.refl s)
  | false => rwa [State.unlessHeld_of_high hlow]

theorem Runs.reply (h : Framed c) (st : Status) (b : List Byte) : Runs c x s (.next (s.reply st b)) := .next (.reply s st b h)

/-- A command does its work, then replies. -/
theorem Runs.replied (h : Framed c) (hrun : Run c x s t) (st : Status) (b : List Byte) : Runs c x s (.next (t.reply st b)) :=
  .next (hrun.trans (.reply t st b h))

/-! ### Host link -/

theorem runs_request (hx : Fits x s) (tag : Fin 32) (line : BitVec 32) (req : HostReq) :
    Runs c x s (.next (s.accept tag line req)) :=
  .next (.flow (accept_flow hx.coded hx.stirs tag line req))

theorem runs_malformed (k : Byte) : Runs (.malformed k) x s (exec (.malformed k) s) := by
  refine .unlessHeld ?_
  split
  · exact .next (.refl s)
  · split
    · exact .next (.flow (.count s _))
    · exact .next (.flow (.trans (.log s _) (.count _ _)))

theorem runs_linkReset (hx : Fits x s) (p : Nat) : Runs (.linkReset p) x s (exec (.linkReset p) s) := by
  refine .unlessHeld ?_
  have hfree : Run (.linkReset p) x s (if 10 ≤ p && p < 100 then s.setFree (s.free + 1) else s) := by
    split
    · exact .free s _
    · exact .refl s
  have hfits : Fits x (if 10 ≤ p && p < 100 then s.setFree (s.free + 1) else s) := by
    split
    · exact hx.of rfl rfl rfl
    · exact hx
  generalize (if 10 ≤ p && p < 100 then s.setFree (s.free + 1) else s) = u at hfree hfits ⊢
  split
  · exact .next (hfree.trans (.flow (linkReset_flow hfits.coded hfits.stirs)))
  · exact .next hfree

/-! ### Memory Port -/

theorem runs_readData (hx : Fits x s) (hd : DeferredFit x s) (gen : Byte) (g : Fin 64) (w : Codeword) : Runs (.readData gen g w) x s (exec (.readData gen g w) s) := by
  refine .unlessHeld ?_
  split
  · next a ha =>
    split
    · have hfits : Fits x (s.complete g) := hx.of rfl rfl rfl
      exact .next (.trans (.complete s g) (tellOwner_run hfits (sound_classify w) fun h => by obtain ⟨-, h, -⟩ := h; cases h))
    · exact .next (lateAnswer_run hx hd gen g)
  · exact .next (lateAnswer_run hx hd gen g)

theorem runs_writeAck (hx : Fits x s) (hd : DeferredFit x s) (hj : (∃ j, s.engine = .copying j) → x.stirs) (gen : Byte)
    (g : Fin 64) : Runs (.writeAck gen g) x s (exec (.writeAck gen g) s) := by
  have hc : Repairs (.writeAck gen g) := trivial
  have hsound : Sound .ack := fun w k v h => by cases h
  refine .unlessHeld ?_
  split
  · next a ha =>
    split
    · have hfits : Fits x (s.complete g) := hx.of rfl rfl rfl
      exact .next (.trans (.complete s g) (tellOwner_run hfits hsound fun ⟨_, _, h⟩ _ => ⟨hc, hj h⟩))
    · exact .next (lateAnswer_run hx hd gen g)
  · exact .next (lateAnswer_run hx hd gen g)

theorem runs_memoryTimeout (hx : Fits x s) (g : Fin 64) : Runs (.memoryTimeout g) x s (exec (.memoryTimeout g) s) := by
  refine .unlessHeld ?_
  split
  · next a ha => exact .next (timeOut_run hx (mem_active_of_activeOf ha).1)
  · exact .next (.refl s)

/-! ### Health Tracker -/

theorem runs_reportTaken (hi : s.inbox ≠ [] → x.stirs) : Runs .reportTaken x s (exec .reportTaken s) := by
  have ht : Tracks .reportTaken := trivial
  refine .unlessHeld ?_
  split
  · next h =>
    split
    · exact .next (.refl s)
    · have hne : s.inbox ≠ [] := by rintro hnil; rw [hnil] at h; cases h
      exact .next (.trans (.inbox s _ ht (takeFirst_subset h)) (takeReport_run (hi hne) ht _ _))
  · exact .next (.refl s)

theorem runs_passEndNotice : Runs .passEndNotice x s (exec .passEndNotice s) := by
  refine .unlessHeld ?_
  split
  · next h =>
    split
    · exact .next (.refl s)
    · exact .next (.trans (.inbox s _ trivial (takeFirst_subset h)) (.suspects _ _ trivial))
  · exact .next (.refl s)

theorem runs_strandedNotice : Runs .strandedNotice x s (exec .strandedNotice s) := by
  refine .unlessHeld ?_
  split
  · next h => exact .next (.trans (.inbox s _ trivial (takeFirst_subset h)) (.suspects _ _ trivial))
  · exact .next (.refl s)

theorem runs_removalNotice : Runs .removalNotice x s (exec .removalNotice s) := by
  refine .unlessHeld ?_
  split
  · next h => exact .next (.trans (.inbox s _ trivial (takeFirst_subset h)) (.suspects _ _ trivial))
  · exact .next (.refl s)

theorem runs_suspectClear (k : Byte) (r : BitVec 32) : Runs (.suspectClear k r) x s (exec (.suspectClear k r) s) := by
  have hf : Framed (.suspectClear k r) := .inl rfl
  refine .unlessHeld ?_
  split
  · split
    · exact .reply hf _ _
    · split
      · exact .reply hf _ _
      · split
        · exact .reply hf _ _
        · exact .replied hf (.suspects s _ trivial) _ _
  · split
    · split
      · exact .reply hf _ _
      · exact .replied hf (.suspects s _ trivial) _ _
    · exact .reply hf _ _

/-! ### Bridge Control -/

theorem runs_containmentRequest (hx : Fits x s) (k : RequestingBlock) :
    Runs (.containmentRequest k) x s (exec (.containmentRequest k) s) := by
  have htaken (b : Bridge) (hs : b.state = s.bridge.state) (hh : b.history = s.bridge.history)
      (hb : BridgeKeeps s.bridge b) (r : ContainRequest) :
      Run (.containmentRequest k) x s ((s.setBridge b).takeContainment r) := by
    have hfits : Fits x (s.setBridge b) := hx.of hs rfl rfl
    exact .trans (.bridge s b hs hh hb) (takeContainment_run hfits r)
  refine .unlessHeld ?_
  split
  · split
    · exact .next (.refl s)
    · next r rest _ => exact .next (htaken { s.bridge with fromMemory := rest } rfl rfl (fun _ _ h => h) r)
  · split
    · exact .next (.refl s)
    · next r rest _ => exact .next (htaken { s.bridge with fromHandler := rest } rfl rfl (fun _ _ h => h) r)

theorem runs_forceContain (hx : Fits x s) : Runs .forceContain x s (exec .forceContain s) := by
  have hf : Framed .forceContain := .inl rfl
  refine .unlessHeld ?_
  split
  · exact .reply hf _ _
  · exact .replied hf (laterCause_run s _) _ _
  all_goals
    next h => exact .replied hf (enterContain_run (by simp [h]) (hx.stirs (.of_state h)) _) _ _

theorem runs_containRead (k : Byte) : Runs (.containRead k) x s (exec (.containRead k) s) := by
  have hf : Framed (.containRead k) := .inl rfl
  refine .unlessHeld ?_
  dsimp only
  split
  · exact .reply hf _ _
  · split
    · refine .replied hf (.bridge s _ ?_ ?_ ?_) _ _
      · rfl
      · rfl
      rintro P hP ⟨h1, h2, h3, h4⟩
      refine ⟨h1, ?_, h3, h4⟩
      simp only [Option.mem_def, Option.map_eq_some_iff] at h2 ⊢
      rintro r ⟨r', hr', rfl⟩
      exact h2 r' hr'
    · exact .reply hf _ _

theorem runs_startKeep : Runs .startKeep x s (exec .startKeep s) := by
  have hf : Framed .startKeep := .inl rfl
  refine .unlessHeld ?_
  split
  · exact .reply hf _ _
  · next h =>
    have hb : s.bridge.state = .standby := by simpa using h
    exact .replied hf (.trans (changeBridge_run (by rw [hb]; decide) (by rw [hb]; decide) (by decide) (by decide))
      (.flow (raiseStuck_flow _))) _ _

theorem runs_startFormat (hx : Fits x s) (hstirs : x.stirs) : Runs .startFormat x s (exec .startFormat s) := by
  have hf : Framed .startFormat := .inl rfl
  refine .unlessHeld ?_
  split
  · exact .reply hf _ _
  · next h =>
    have hb : s.bridge.state = .standby := by simpa using h
    exact .replied hf (enterFormat_run hx.coded hx.ends hstirs (by rw [hb]; decide)) _ _

/-! ### Repair Map, Spare Pool and Repair Engine -/

theorem runs_jobStart (hx : Fits x s) : Runs .jobStart x s (exec .jobStart s) := by
  refine .unlessHeld ?_
  split
  · next h =>
    simp only [Bool.and_eq_true, decide_eq_true_eq] at h
    exact .next (startJob_run trivial hx h.2)
  · exact .next (.refl s)

theorem runs_mapLoad (r : BitVec 32) (i : Byte) : Runs (.mapLoad r i) x s (exec (.mapLoad r i) s) := by
  have hf : Framed (.mapLoad r i) := .inl rfl
  have hc : Repairs (.mapLoad r i) := trivial
  refine .unlessHeld ?_
  dsimp only
  split
  · exact .reply hf _ _
  · next hstate =>
    split
    · exact .reply hf _ _
    · split
      · exact .reply hf _ _
      · next hnone =>
        split
        · exact .reply hf _ _
        · have hb : s.bridge.state = .standby := by simpa using hstate
          exact .replied hf (loadMap_run hc (by rw [hb]; decide) (by simpa using hnone) _) _ _

theorem runs_spareMarkBad (i : Byte) : Runs (.spareMarkBad i) x s (exec (.spareMarkBad i) s) := by
  have hf : Framed (.spareMarkBad i) := .inl rfl
  refine .unlessHeld ?_
  split
  · exact .reply hf _ _
  · split
    · exact .reply hf _ _
    · exact .reply hf _ _
    · exact .reply hf _ _
    · exact .reply hf _ _
    · exact .replied hf (.spares s _ trivial) _ _

theorem runs_spareTest (hx : Fits x s) (i : Byte) : Runs (.spareTest i) x s (exec (.spareTest i) s) := by
  have hf : Framed (.spareTest i) := .inl rfl
  have hc : Repairs (.spareTest i) := trivial
  refine .unlessHeld ?_
  split
  · exact .reply hf _ _
  · split
    · exact .reply hf _ _
    · split
      · exact .reply hf _ _
      · split
        · exact .reply hf _ _
        · split
          · exact .reply hf _ _
          · exact .replied hf (startTest_run hc hx _ _) _ _

/-- A request that is accepted is for a region that has no COPYING entry. -/
theorem asks_of_accepted {r : Nat} (hV : r < s.V) (hlive : ∀ e, findEntry s.map r = some e → e.isCopying = true)
    (h : s.submission r = .accepted) : Asks s ⟨r, .retire, .management⟩ := by
  refine .inl ⟨rfl, hV, ?_⟩
  cases he : findEntry s.map r with
  | none => rfl
  | some e =>
    have hcopy := hlive e he
    have hregion : e.region = r := by simpa using List.find?_some he
    have hany : s.map.any (fun e => e.isCopying && e.region = r) = true :=
      List.any_eq_true.mpr ⟨e, List.mem_of_find?_eq_some he, by simp [hcopy, hregion]⟩
    simp [State.submission, hany] at h

theorem runs_retire (hx : Fits x s) (r : BitVec 32) : Runs (.retire r) x s (exec (.retire r) s) := by
  have hf : Framed (.retire r) := .inl rfl
  refine .unlessHeld ?_
  split
  · exact .reply hf _ _
  next hservice =>
  split
  · exact .reply hf _ _
  next hV =>
  have hstirs : x.stirs := hx.stirs (stirs_of_inService (by simpa using hservice))
  have hsubmit (hlive : ∀ e, findEntry s.map r.toNat = some e → e.isCopying = true) : Runs (.retire r) x s
      (match s.submission r.toNat with
      | .duplicate => .next (s.reply .duplicate [])
      | .full => .next ((s.logEvent (.retireRefused r.toNat)).reply .full [])
      | .accepted =>
        .next ((s.submit ⟨r.toNat, .retire, .management⟩).reply .done
          [byte (s.submit ⟨r.toNat, .retire, .management⟩).queue.length])) := by
    split
    · exact .reply hf _ _
    · exact .replied hf (.flow (.log s _)) _ _
    · next h => exact .replied hf (submit_run hstirs (asks_of_accepted (by omega) hlive h)) _ _
  split
  · next e he =>
    split
    · exact .reply hf _ _
    · next hcopy =>
      refine hsubmit fun e' he' => ?_
      obtain rfl : e = e' := by simpa [he] using he'
      simpa using hcopy
  · next hnone =>
    rw [if_neg Bool.false_ne_true]
    exact hsubmit fun e he => by simp [hnone] at he

theorem runs_resumeCopy (hx : Fits x s) : Runs .resumeCopy x s (exec .resumeCopy s) := by
  have hf : Framed .resumeCopy := .inl rfl
  refine .unlessHeld ?_
  split
  · next j hj =>
    have hset : Flow x s (s.setEngine (.copying { j with timeouts := 0, phase := .waitHold })) := .engine s _ (by rw [hj]; rfl)
    exact .replied hf (.flow (hset.requestHold hx.coded (hset.stirs hx.stirs) _ _)) _ _
  all_goals exact .reply hf _ _

/-! ### Patrol Scrubber -/

theorem runs_intervalTimerRunOut (hx : Fits x s) : Runs .intervalTimerRunOut x s (exec .intervalTimerRunOut s) := by
  refine .unlessHeld ?_
  split
  · exact .next (.flow (timerRunOut_flow hx.coded hx.stirs))
  · exact .next (.refl s)
  · exact .next (.refl s)

theorem runs_patrolStart : Runs .patrolStart x s (exec .patrolStart s) := by
  have hf : Framed .patrolStart := .inl rfl
  refine .unlessHeld ?_
  split
  · exact .reply hf _ _
  · split
    · exact .reply hf _ _
    · refine .replied hf (.flow (.patrol s _ ?_ ?_ ?_)) _ _
      · rfl
      · rfl
      · exact .inl

theorem runs_patrolStop : Runs .patrolStop x s (exec .patrolStop s) := by
  refine .unlessHeld (.replied (.inl rfl) (.flow (.patrol s _ ?_ ?_ ?_)) _ _)
  · rfl
  · rfl
  · exact .inl

theorem runs_summaryClear : Runs .summaryClear x s (exec .summaryClear s) := by
  refine .unlessHeld (.replied (.inl rfl) (.flow (.patrol s _ ?_ ?_ ?_)) _ _)
  · rfl
  · rfl
  · exact .inl

/-! ### Events -/

theorem runs_eventPop : Runs .eventPop x s (exec .eventPop s) := by
  have hf : Framed .eventPop := .inl rfl
  refine .unlessHeld ?_
  split
  · exact .reply hf _ _
  · next h => exact .replied hf (.popped s _ _ h) _ _

theorem runs_countersClear : Runs .countersClear x s (exec .countersClear s) :=
  .unlessHeld (.replied (.inl rfl) (.flow (.count s _)) _ _)

/-! ### Management Port -/

theorem runs_frameRejected (f : List Byte) : Runs (.frameRejected f) x s (exec (.frameRejected f) s) := by
  have hf : Framed (.frameRejected f) := .inr ⟨f, rfl⟩
  refine .unlessHeld ?_
  split
  · exact .next (.refl s)
  · split
    · exact .reply hf _ _
    · split
      · split
        · exact .reply hf _ _
        · exact .reply hf _ _
      · exact .next (.refl s)

/-- A stored value leaves the parameters in range. -/
theorem params_set_law {p : Params} {i : Byte} {v : Nat} (hr : (paramRange i.toNat).1 ≤ v ∧ v ≤ (paramRange i.toNat).2)
    (hg : isGeometry i = true → (p.set i.toNat v).spareCount < (p.set i.toNat v).memRegions) (h : p.law) :
    (p.set i.toNat v).law := by
  obtain ⟨hP, hS, hce, hrr, hto, hfl, hpi, hal⟩ := h
  have hgeom : i.toNat = 1 ∨ i.toNat = 2 → isGeometry i = true := by
    rintro (h | h)
    · simp [isGeometry, show i = 1 from BitVec.eq_of_toNat_eq h]
    · simp [isGeometry, show i = 2 from BitVec.eq_of_toNat_eq h]
  generalize i.toNat = n at *
  unfold Params.set at hg ⊢
  unfold Params.law
  split <;> simp_all [paramRange]

/-- A parameter other than MEM_REGIONS and SPARE_COUNT leaves both. -/
theorem params_set_geometry {p : Params} {i : Byte} (v : Nat) (h : isGeometry i = false) :
    (p.set i.toNat v).memRegions = p.memRegions ∧ (p.set i.toNat v).spareCount = p.spareCount := by
  simp only [isGeometry, Bool.or_eq_false_iff, decide_eq_false_iff_not] at h
  have h1 : i.toNat ≠ 1 := fun e => h.1 (BitVec.eq_of_toNat_eq e)
  have h2 : i.toNat ≠ 2 := fun e => h.2 (BitVec.eq_of_toNat_eq e)
  unfold Params.set
  split <;> simp_all

/-- A parameter other than ALERT_LEVEL leaves it. -/
theorem params_set_alertLevel {p : Params} {i : Byte} (v : Nat) (h : i ≠ 9) :
    (p.set i.toNat v).alertLevel = p.alertLevel := by
  have h9 : i.toNat ≠ 9 := fun e => h (BitVec.eq_of_toNat_eq e)
  unfold Params.set
  split <;> simp_all

theorem runs_configSet (i : Byte) (v : BitVec 32) : Runs (.configSet i v) x s (exec (.configSet i v) s) := by
  have hf : Framed (.configSet i v) := .inl rfl
  refine .unlessHeld ?_
  dsimp only
  split
  · exact .reply hf _ _
  split
  · exact .reply hf _ _
  next hstate =>
  split
  · exact .reply hf _ _
  split
  · exact .reply hf _ _
  next hrange =>
  split
  · exact .reply hf _ _
  next hspares =>
  have hlaw : s.mgmt.params.law → (s.mgmt.params.set i.toNat v.toNat).law := by
    refine params_set_law ?_ ?_
    · omega
    · intro hg
      simp only [hg, true_and] at hspares
      omega
  split
  · next hg =>
    obtain ⟨hb, hm⟩ : s.bridge.state = .standby ∧ s.map = [] := by
      simpa only [hg, true_and, Classical.not_not] using hstate
    refine .replied hf (.geometry s i v.toNat ⟨i, v, rfl⟩ hlaw (params_set_alertLevel _ ?_) hb hm) _ _
    rintro rfl
    simp [isGeometry] at hg
  · next hg =>
    obtain ⟨hP, hS⟩ := params_set_geometry (p := s.mgmt.params) (i := i) v.toNat (by simpa using hg)
    split
    · exact .replied hf (.alertLevel s _ ⟨i, v, rfl⟩ hlaw hP hS) _ _
    · next h9 => exact .replied hf (.param s _ ⟨i, v, rfl⟩ hlaw hP hS (params_set_alertLevel _ h9)) _ _

theorem runs_diagFetch (hx : Fits x s) (p : BitVec 32) : Runs (.diagFetch p) x s (exec (.diagFetch p) s) := by
  have hf : Framed (.diagFetch p) := .inl rfl
  refine .unlessHeld ?_
  split
  · exact .reply hf _ _
  split
  · exact .reply hf _ _
  split
  · exact .reply hf _ _
  split
  · exact .reply hf _ _
  exact .replied hf (.flow (startDiag_flow hx _ _)) _ _

theorem runs_diagStore (hx : Fits x s) (p : BitVec 32) (m : Byte) : Runs (.diagStore p m) x s (exec (.diagStore p m) s) := by
  have hf : Framed (.diagStore p m) := .inl rfl
  refine .unlessHeld ?_
  split
  · exact .reply hf _ _
  split
  · exact .reply hf _ _
  split
  · exact .reply hf _ _
  split
  · exact .reply hf _ _
  split
  · exact .reply hf _ _
  split
  · exact .reply hf _ _
  split
  · exact .reply hf _ _
  exact .replied hf (.flow (startDiag_flow hx _ _)) _ _

theorem runs_diagSwap : Runs .diagSwap x s (exec .diagSwap s) := by
  have hf : Framed .diagSwap := .inl rfl
  refine .unlessHeld ?_
  split
  · exact .reply hf _ _
  · exact .replied hf (.swap s rfl) _ _

/-! ### The commands that only reply -/

/-- The commands that read and reply. -/
def Reads : Instr → Prop
  | .identify | .status | .configGet _ | .mapRead _ | .mapFind _ | .spareRead _ | .queueRead | .engineStatus | .suspectRead _
  | .patrolStatus | .summaryRead | .eventPeek | .countersRead | .diagRead _ _ => True
  | _ => False

/-- What a reading command replies, whichever of its branches is taken. -/
theorem exec_of_reads (h : Reads c) : ∃ st b, exec c s = s.unlessHeld (.next (s.reply st b)) := by
  cases c with
  | configGet i => change ∃ st b, execConfigGet i s = _; unfold execConfigGet; split <;> exact ⟨_, _, rfl⟩
  | mapRead p => change ∃ st b, execMapRead p s = _; unfold execMapRead; split <;> exact ⟨_, _, rfl⟩
  | mapFind r => change ∃ st b, execMapFind r s = _; unfold execMapFind; split <;> exact ⟨_, _, rfl⟩
  | spareRead i => change ∃ st b, execSpareRead i s = _; unfold execSpareRead; split <;> exact ⟨_, _, rfl⟩
  | eventPeek => change ∃ st b, execEventPeek s = _; unfold execEventPeek; split <;> exact ⟨_, _, rfl⟩
  | suspectRead p =>
    change ∃ st b, execSuspectRead p s = _
    unfold execSuspectRead
    split
    · exact ⟨_, _, rfl⟩
    · split <;> exact ⟨_, _, rfl⟩
  | diagRead o l =>
    change ∃ st b, execDiagRead o l s = _
    unfold execDiagRead
    dsimp only
    split
    · exact ⟨_, _, rfl⟩
    · split <;> exact ⟨_, _, rfl⟩
  | identify => exact ⟨_, _, rfl⟩
  | status => exact ⟨_, _, rfl⟩
  | queueRead => exact ⟨_, _, rfl⟩
  | engineStatus => exact ⟨_, _, rfl⟩
  | patrolStatus => exact ⟨_, _, rfl⟩
  | summaryRead => exact ⟨_, _, rfl⟩
  | countersRead => exact ⟨_, _, rfl⟩
  | _ => exact h.elim

theorem framed_of_reads (h : Reads c) : Framed c := by
  refine .inl ?_
  cases c <;> (try exact h.elim) <;> rfl

theorem runs_of_reads (h : Reads c) : Runs c x s (exec c s) := by
  obtain ⟨st, b, he⟩ := exec_of_reads (s := s) h
  rw [he]
  exact .unlessHeld (.reply (framed_of_reads h) st b)

/-! ### All commands -/

/-- The scope fits the state and what it has deferred, and lets a copy job, START FORMAT and a report stir. -/
structure Ready (c : Instr) (x : Scope) (s : State) : Prop where
  fits : Fits x s
  deferred : DeferredFit x s
  copying : (∃ j, s.engine = .copying j) → x.stirs
  format : c = .startFormat → x.stirs
  inbox : s.inbox ≠ [] → x.stirs

theorem exec_run (h : Ready c x s) (hc : ∀ edge straps, c ≠ .hardReset edge straps) (ht : exec c s = .next t) : Run c x s t := by
  suffices hruns : Runs c x s (exec c s) from hruns t ht
  obtain ⟨hx, hd, hj, hformat, hinbox⟩ := h
  cases c with
  | hardReset edge straps => exact absurd rfl (hc edge straps)
  | linkReset p => exact runs_linkReset hx p
  | rd tag line => exact .unlessHeld (runs_request hx tag line _)
  | wr tag line d => exact .unlessHeld (runs_request hx tag line _)
  | wrp tag line d m => exact .unlessHeld (runs_request hx tag line _)
  | malformed k => exact runs_malformed k
  | readData gen g w => exact runs_readData hx hd gen g w
  | writeAck gen g => exact runs_writeAck hx hd hj gen g
  | memoryTimeout g => exact runs_memoryTimeout hx g
  | intervalTimerRunOut => exact runs_intervalTimerRunOut hx
  | reportTaken => exact runs_reportTaken hinbox
  | passEndNotice => exact runs_passEndNotice
  | strandedNotice => exact runs_strandedNotice
  | removalNotice => exact runs_removalNotice
  | containmentRequest k => exact runs_containmentRequest hx k
  | jobStart => exact runs_jobStart hx
  | frameRejected f => exact runs_frameRejected f
  | configSet i v => exact runs_configSet i v
  | startKeep => exact runs_startKeep
  | startFormat => exact runs_startFormat hx (hformat rfl)
  | softReset => exact .unlessHeld (.replied (.inl rfl) (.softReset s rfl) _ _)
  | forceContain => exact runs_forceContain hx
  | containRead k => exact runs_containRead k
  | mapLoad r i => exact runs_mapLoad r i
  | spareMarkBad i => exact runs_spareMarkBad i
  | spareTest i => exact runs_spareTest hx i
  | retire r => exact runs_retire hx r
  | resumeCopy => exact runs_resumeCopy hx
  | suspectClear k r => exact runs_suspectClear k r
  | patrolStart => exact runs_patrolStart
  | patrolStop => exact runs_patrolStop
  | summaryClear => exact runs_summaryClear
  | eventPop => exact runs_eventPop
  | countersClear => exact runs_countersClear
  | diagFetch p => exact runs_diagFetch hx p
  | diagSwap => exact runs_diagSwap
  | diagStore p m => exact runs_diagStore hx p m
  | _ => exact runs_of_reads trivial

end Sys2Proof.Proofs
end

section
/-! The laws that each single change keeps, and with it every command: line holds (R65), responses (R155), codewords (table of
1.6), tags (R165, R168). -/

-- Fewer threads at once: each takes a part of the memory that a check of the whole text may use.
set_option Elab.async false

namespace Sys2Proof.Proofs

open Sys2Proof Sys2Proof.Machine

variable {c : Instr} {x : Scope} {s t : State}

/-! ### The scope of a command -/

/-- Nothing is ruled out. -/
def Scope.open : Scope := ⟨fun _ => True, True, True⟩

/-- Only codewords of the code are written. -/
def Scope.lawful : Scope := ⟨MemKind.law, True, True⟩

theorem ready_open : Ready c Scope.open s :=
  ⟨⟨fun _ _ => trivial, trivial, fun _ => trivial⟩, fun _ _ => trivial, fun _ => trivial, fun _ => trivial, fun _ => trivial⟩

theorem ready_lawful (h : ∀ r ∈ s.mem.deferred, r.kind.law) : Ready c Scope.lawful s :=
  ⟨⟨fun _ h => h, trivial, fun _ => trivial⟩, h, fun _ => trivial, fun _ => trivial, fun _ => trivial⟩

/-- A law holds after every command when the hard reset's two edges and every run keep it. -/
theorem kept_by_commands {L : State → Prop} (hfall : ∀ s, L s → L s.holdInReset) (hrise : ∀ s straps, L s → L (s.endReset straps))
    (hrun : ∀ c s t, (∀ edge straps, c ≠ .hardReset edge straps) → exec c s = .next t → L s → L t) (h : exec c s = .next t)
    (hs : L s) : L t := by
  by_cases hc : ∃ edge straps, c = .hardReset edge straps
  · obtain ⟨edge, straps, rfl⟩ := hc
    cases edge with
    | fall => cases h; exact hfall s hs
    | rise => cases h; exact hrise s straps hs
  · exact hrun c s t (fun edge straps he => hc ⟨edge, straps, he⟩) h hs

/-! ### At most one ACTIVE hold per key (R65) -/

/-- The ACTIVE holds on a key. -/
def activeOn (l : List Hold) (k : Key) : Nat := l.countP fun e => e.active && e.key = k

theorem holdLaw_iff : HoldLaw s ↔ ∀ k, activeOn s.order.entries k ≤ 1 := by
  refine ⟨fun h k => ?_, fun h e _ => h e.key⟩
  by_cases hk : ∃ e ∈ s.order.entries, e.key = k
  · obtain ⟨e, he, rfl⟩ := hk
    exact h e he
  · have hzero : activeOn s.order.entries k = 0 := by
      simp only [not_exists, not_and] at hk
      simpa [activeOn, List.countP_eq_zero] using fun e he _ => hk e he
    omega

theorem activeOn_eq_count (l : List Hold) (k : Key) : activeOn l k = (l.map fun e => (e.key, e.active)).count (k, true) := by
  induction l with
  | nil => rfl
  | cons e l ih =>
    rw [activeOn, List.countP_cons, ← activeOn, ih, List.map_cons, List.count_cons]
    congr 2
    simp [and_comm]

theorem activeOn_le_of_sublist {l m : List Hold}
    (h : (l.map fun e => (e.key, e.active)).Sublist (m.map fun e => (e.key, e.active))) (k : Key) : activeOn l k ≤ activeOn m k := by
  rw [activeOn_eq_count, activeOn_eq_count]
  exact h.count_le _

/-- The hold made ACTIVE is the only one on its key that can be new. -/
theorem activeOn_activateOldest (l : List Hold) (k k' : Key) :
    activeOn (activateOldest k l) k' ≤ activeOn l k' + if k = k' then 1 else 0 := by
  induction l with
  | nil => simp [activeOn, activateOldest]
  | cons e l ih =>
    unfold activateOldest
    split
    · next he =>
      subst he
      unfold activeOn
      rw [List.countP_cons, List.countP_cons]
      by_cases hk : e.key = k' <;> simp [hk]
    · unfold activeOn at ih ⊢
      rw [List.countP_cons, List.countP_cons]
      omega

theorem activeOn_eq_zero {k : Key} (h : (s.holdsOn k).any (·.active) = false) : activeOn s.order.entries k = 0 := by
  simp only [State.holdsOn, List.any_eq_false, List.mem_filter, decide_eq_true_eq, and_imp, Bool.not_eq_true] at h
  simpa [activeOn, List.countP_eq_zero] using fun e he ha hk => by simp [h e he hk] at ha

theorem holdLaw_of_flow (hs : HoldLaw s) (h : Flow x s t) : HoldLaw t := by
  rw [holdLaw_iff] at hs ⊢
  induction h with
  | trans _ _ ih ih' => exact ih' (ih hs)
  | addHold s k o =>
    intro k'
    have hnew : activeOn (s.addHold k o).order.entries k' = activeOn s.order.entries k' := by
      simp [activeOn, State.addHold, List.countP_append]
    rw [hnew]
    exact hs k'
  | dropHolds s l h => exact fun k => (activeOn_le_of_sublist h k).trans (hs k)
  | activate s k hnone =>
    intro k'
    have hnew := activeOn_activateOldest s.order.entries k k'
    have hzero := activeOn_eq_zero hnone
    have hold := hs k'
    rw [State.activate_entries]
    split at hnew
    · next hk => subst hk; omega
    · omega
  | closeVisit s e => rw [closeVisit_order]; exact hs
  | _ => exact hs

theorem endTestSilently_entries (s : State) : s.endTestSilently.order.entries.Sublist s.order.entries := by
  unfold State.endTestSilently
  split
  · exact List.filter_sublist
  · exact .refl _

theorem holdLaw_of_run (hs : HoldLaw s) (h : Run c x s t) : HoldLaw t := by
  induction h with
  | trans _ _ ih ih' => exact ih' (ih hs)
  | flow h => exact holdLaw_of_flow hs h
  | arranged key h ih => exact ih hs
  | geometry s i v =>
    rw [holdLaw_iff] at hs ⊢
    exact fun k => (activeOn_le_of_sublist ((endTestSilently_entries (s.setParam i v)).map _) k).trans (hs k)
  | softReset s =>
    have hnone : s.softReset.order.entries = [] := by
      unfold State.softReset State.softResetDiag
      split <;> rfl
    simp [HoldLaw, hnone]
  | _ => exact hs

/-- Settles O22: an entry becomes ACTIVE only on a key with no ACTIVE entry, and no change but that adds an ACTIVE one. -/
theorem oneActiveHoldKept : Obligations.OneActiveHoldKept := by
  intro c s t hs h
  refine kept_by_commands (L := HoldLaw) (fun s hs => hs) (fun s straps _ => ?_) (fun c s t hc h hs => ?_) h hs
  · simp [HoldLaw, State.endReset, State.reset]
  · exact holdLaw_of_run hs (exec_run ready_open hc h)

/-! ### Responses (R155) -/

theorem mem_insertBy {α : Type} {key : α → Nat} {y z : α} {l : List α} : z ∈ insertBy key y l ↔ z = y ∨ z ∈ l := by
  induction l with
  | nil => simp [insertBy]
  | cons w l ih =>
    rw [insertBy]
    split
    · simp
    · simp only [List.mem_cons, ih]
      tauto

theorem mem_arrange {α : Type} {key : α → Nat} {z : α} {l : List α} : z ∈ arrange key l ↔ z ∈ l := by
  induction l with
  | nil => simp [arrange]
  | cons y l ih => rw [arrange, mem_insertBy, ih, List.mem_cons]

theorem responseLaw_of_flow (hs : ResponseLaw s) (h : Flow x s t) : ResponseLaw t := by
  induction h with
  | trans _ _ ih ih' => exact ih' (ih hs)
  | send s r h =>
    intro r' hr'
    rcases List.mem_append.mp hr' with hr' | hr'
    · exact hs r' hr'
    · rw [List.mem_singleton.mp hr']
      exact h
  | closeVisit s e => rw [ResponseLaw, closeVisit_hostOut]; exact hs
  | _ => exact hs

theorem endTestSilently_hostOut (s : State) : s.endTestSilently.hostOut = s.hostOut := by
  unfold State.endTestSilently
  split <;> rfl

theorem softReset_hostOut (s : State) : s.softReset.hostOut = s.hostOut := by
  rw [State.softReset, softResetDiag_eq, softResetEngine_eq]; rfl

theorem responseLaw_of_run (hs : ResponseLaw s) (h : Run c x s t) : ResponseLaw t := by
  induction h with
  | trans _ _ ih ih' => exact ih' (ih hs)
  | flow h => exact responseLaw_of_flow hs h
  | @arranged s t key h ih =>
    intro r hr
    rcases List.mem_append.mp hr with hr | hr
    · exact hs r hr
    · exact ih (by simp [ResponseLaw]) r (mem_arrange.mp hr)
  | geometry s i v => rwa [ResponseLaw, show ((s.setParam i v).geometryChange).hostOut = s.hostOut from endTestSilently_hostOut _]
  | softReset s => rwa [ResponseLaw, softReset_hostOut]
  | _ => exact hs

/-- Settles O29: the only responses ever appended keep the law, whatever their order. -/
theorem responseLawKept : Obligations.ResponseLawKept := by
  intro c s t hs h
  refine kept_by_commands (L := ResponseLaw) (fun s hs => hs) (fun s straps _ => ?_) (fun c s t hc h hs => ?_) h hs
  · simp [ResponseLaw, State.endReset, State.reset]
  · exact responseLaw_of_run hs (exec_run ready_open hc h)

/-! ### Codewords (table of 1.6) -/

theorem codewordLaw_of_flow (hx : ∀ k, x.writes k → k.law) (hs : CodewordLaw s) (h : Flow x s t) : CodewordLaw t := by
  induction h with
  | trans _ _ ih ih' => exact ih' (ih hs)
  | sendOp s g r hw =>
    refine ⟨fun o ho => ?_, hs.2⟩
    rcases List.mem_append.mp ho with ho | ho
    · exact hs.1 o ho
    · rw [List.mem_singleton.mp ho]
      exact hx _ hw
  | defer s r hw =>
    refine ⟨hs.1, fun r' hr' => ?_⟩
    rcases List.mem_append.mp hr' with hr' | hr'
    · exact hs.2 r' hr'
    · rw [List.mem_singleton.mp hr']
      exact hx _ hw
  | closeVisit s e => rw [CodewordLaw, closeVisit_memOut, closeVisit_mem]; exact hs
  | _ => exact hs

theorem endTestSilently_memOut (s : State) : s.endTestSilently.memOut = s.memOut := by
  unfold State.endTestSilently
  split <;> rfl

theorem endTestSilently_deferred (s : State) : s.endTestSilently.mem.deferred ⊆ s.mem.deferred := by
  unfold State.endTestSilently
  split
  · exact fun r hr => List.mem_of_mem_filter hr
  · exact List.Subset.refl _

theorem softReset_memOut (s : State) : s.softReset.memOut = s.memOut := by
  rw [State.softReset, softResetDiag_eq, softResetEngine_eq]; rfl

theorem softReset_mem (s : State) :
    s.softReset.mem = { active := [], quarantine := [], generation := s.mem.generation + 1, faults := 0, deferred := [] } := by
  rw [State.softReset, softResetDiag_eq, softResetEngine_eq]; rfl

theorem codewordLaw_of_run (hx : ∀ k, x.writes k → k.law) (hs : CodewordLaw s) (h : Run c x s t) : CodewordLaw t := by
  induction h with
  | trans _ _ ih ih' => exact ih' (ih hs)
  | flow h => exact codewordLaw_of_flow hx hs h
  | arranged key h ih => exact ih hs
  | clearDeferred s => exact ⟨hs.1, by simp [State.clearDeferred]⟩
  | geometry s i v =>
    refine ⟨fun o ho => hs.1 o ?_, fun r hr => hs.2 r (endTestSilently_deferred (s.setParam i v) hr)⟩
    exact endTestSilently_memOut (s.setParam i v) ▸ ho
  | softReset s => exact ⟨fun o ho => hs.1 o (softReset_memOut s ▸ ho), by simp [softReset_mem]⟩
  | _ => exact hs

/-- Settles O30: every memory operation asked for, at once or deferred, comes from a flow of a scope that allows only codewords
of the code. -/
theorem codewordLawKept : Obligations.CodewordLawKept := by
  intro c s t hs h
  refine kept_by_commands (L := CodewordLaw) (fun s hs => hs) (fun s straps _ => ?_) (fun c s t hc h hs => ?_) h hs
  · simp [CodewordLaw, State.endReset, State.reset]
  · exact codewordLaw_of_run (fun _ hk => hk) hs (exec_run (ready_lawful hs.2) hc h)

/-! ### Tags (R165, R168) -/

theorem tagLaw_iff : TagLaw s ↔ (s.mem.active.map (·.tag)).Nodup ∧ s.mem.quarantine.Nodup ∧
    (∀ a ∈ s.mem.active, a.tag ∉ s.mem.quarantine) ∧ ∀ a ∈ s.mem.active, a.gen = s.mem.generation := by
  rw [TagLaw, List.nodup_append]
  constructor
  · rintro ⟨⟨h1, h2, h3⟩, h4⟩
    exact ⟨h1, h2, fun a ha hq => h3 _ (List.mem_map_of_mem ha) _ hq rfl, h4⟩
  · rintro ⟨h1, h2, h3, h4⟩
    refine ⟨⟨h1, h2, ?_⟩, h4⟩
    rintro g hg g' hg' rfl
    obtain ⟨a, ha, rfl⟩ := List.mem_map.mp hg
    exact h3 a ha hg'

theorem tagFree_iff {m : MemPort} {g : Fin 64} : m.tagFree g = true ↔ (∀ a ∈ m.active, a.tag ≠ g) ∧ g ∉ m.quarantine := by
  simp [MemPort.tagFree]

/-- Fewer tags under way, and fewer in quarantine. -/
theorem tagLaw_of_sublist {u : State} (hs : TagLaw s) (ha : u.mem.active.Sublist s.mem.active)
    (hq : u.mem.quarantine.Sublist s.mem.quarantine) (hg : u.mem.generation = s.mem.generation) : TagLaw u :=
  ⟨hs.1.sublist ((ha.map _).append hq), fun a h => (hs.2 a (ha.subset h)).trans hg.symm⟩

theorem tagLaw_of_flow (hs : TagLaw s) (h : Flow x s t) : TagLaw t := by
  induction h with
  | trans _ _ ih ih' => exact ih' (ih hs)
  | sendOp s g r _ _ ht =>
    rw [tagLaw_iff] at hs ⊢
    obtain ⟨h1, h2, h3, h4⟩ := hs
    obtain ⟨hactive, hquarantine⟩ := tagFree_iff.mp ht
    simp only [State.sendOp, State.setMemOut_mem, State.setMem_mem, List.map_append, List.map_cons, List.map_nil,
      List.mem_append, List.mem_singleton]
    refine ⟨?_, h2, ?_, ?_⟩
    · rw [List.nodup_append]
      refine ⟨h1, by simp, ?_⟩
      simpa using hactive
    · rintro a (ha | rfl)
      · exact h3 a ha
      · exact hquarantine
    · rintro a (ha | rfl)
      · exact h4 a ha
      · rfl
  | closeVisit s e => rw [TagLaw, closeVisit_mem]; exact hs
  | _ => exact hs

/-- Tags go from the active operations to quarantine. -/
theorem nodup_quarantined {l : List ActiveOp} {q : List (Fin 64)} (p : ActiveOp → Bool) (h : (l.map (·.tag) ++ q).Nodup) :
    ((l.filter fun a => !p a).map (·.tag) ++ (q ++ (l.filter p).map (·.tag))).Nodup := by
  have hperm : (l.map (·.tag) ++ q).Perm ((l.filter fun a => !p a).map (·.tag) ++ (q ++ (l.filter p).map (·.tag))) := by
    have hsplit := ((List.filter_append_perm p l).map (·.tag)).symm
    rw [List.map_append] at hsplit
    calc l.map (·.tag) ++ q
      _ |>.Perm (((l.filter p).map (·.tag) ++ (l.filter fun a => !p a).map (·.tag)) ++ q) := hsplit.append_right q
      _ |>.Perm (((l.filter fun a => !p a).map (·.tag) ++ (l.filter p).map (·.tag)) ++ q) :=
        (List.perm_append_comm).append_right q
      _ |>.Perm _ := by
        rw [List.append_assoc]
        exact (List.perm_append_comm).append_left _
  exact hperm.nodup_iff.mp h

theorem endTestSilently_tagLaw (hs : TagLaw s) : TagLaw s.endTestSilently := by
  unfold State.endTestSilently
  split
  · refine ⟨?_, fun a ha => hs.2 a (List.mem_of_mem_filter ha)⟩
    simpa using nodup_quarantined (fun a => a.owner = .engine) hs.1
  · exact hs

/-- The operations under a tag that is distinct from the others' are at most one. -/
theorem filter_tag_eq {l : List ActiveOp} {a : ActiveOp} (ha : a ∈ l) (h : (l.map (·.tag)).Nodup) :
    (l.filter fun b => b.tag = a.tag).map (·.tag) = [a.tag] := by
  have hcount := List.count_eq_one_of_mem h (List.mem_map_of_mem (f := (·.tag)) ha)
  rw [List.count_eq_length_filter, List.filter_map, List.length_map] at hcount
  obtain ⟨b, hb⟩ := List.length_eq_one_iff.mp hcount
  have hmem : b ∈ l.filter ((fun y => y == a.tag) ∘ (·.tag)) := by rw [hb]; simp
  have htag : b.tag = a.tag := by simpa using (List.mem_filter.mp hmem).2
  have heq : (l.filter fun b => b.tag = a.tag) = l.filter ((fun y => y == a.tag) ∘ (·.tag)) := by
    congr 1
  rw [heq, hb, List.map_singleton, htag]

theorem quarantineTag_tagLaw (hs : TagLaw s) {a : ActiveOp} (ha : a ∈ s.mem.active) : TagLaw (s.quarantineTag a.tag) := by
  refine ⟨?_, fun b hb => hs.2 b (List.mem_of_mem_filter hb)⟩
  have hmoved := nodup_quarantined (fun b => decide (b.tag = a.tag)) hs.1
  rw [filter_tag_eq ha hs.1.of_append_left] at hmoved
  simpa [State.quarantineTag] using hmoved

theorem tagLaw_of_run (hs : TagLaw s) (h : Run c x s t) : TagLaw t := by
  induction h with
  | trans _ _ ih ih' => exact ih' (ih hs)
  | flow h => exact tagLaw_of_flow hs h
  | arranged key h ih => exact ih hs
  | complete s g => exact tagLaw_of_sublist hs List.filter_sublist (.refl _) rfl
  | quarantine s g h =>
    obtain ⟨a, ha, rfl⟩ := h
    exact quarantineTag_tagLaw hs ha
  | freeTag s g => exact tagLaw_of_sublist hs (.refl _) List.filter_sublist rfl
  | geometry s i v => exact endTestSilently_tagLaw (s := s.setParam i v) hs
  | softReset s => simp [TagLaw, softReset_mem]
  | _ => exact hs

/-- Settles O54: an operation takes a tag that is free, and a tag goes to quarantine as its operation ends. -/
theorem tagLawKept : Obligations.TagLawKept := by
  intro c s t hs h
  refine kept_by_commands (L := TagLaw) (fun s hs => hs) (fun s straps _ => ?_) (fun c s t hc h hs => ?_) h hs
  · simp [TagLaw, State.endReset, State.reset]
  · exact tagLaw_of_run hs (exec_run ready_open hc h)

end Sys2Proof.Proofs
end

section
/-! The Event Queue and ALERT_N (R144, R150), Bridge Control, parameters and patrol position (R114, R131, R133, R177), CONTAIN
(R138, R170), the map's entries (R17, R27), and what only some commands change. -/

-- Fewer threads at once: each takes a part of the memory that a check of the whole text may use.
set_option Elab.async false

namespace Sys2Proof.Proofs

open Sys2Proof Sys2Proof.Machine

variable {c : Instr} {x : Scope} {s t : State}

/-! ### The Event Queue and ALERT_N (R144, R150) -/

/-- With RESET_N high, ALERT_N is what its condition says. -/
theorem alertLaw_iff (h : s.resetLow = false) : AlertLaw s ↔ s.ev.alertLow = s.alertCondition := by
  simp only [AlertLaw, State.alertCondition, h, true_and]
  cases s.ev.alertLow <;> simp

/-- What the events' laws say with RESET_N high. -/
def EventsSound (s : State) : Prop := s.ev.law ∧ s.ev.alertLow = s.alertCondition

/-- The records, the counters, and what ALERT_N depends on are as they were. -/
theorem eventsSound_of_eq {u : State} (hs : EventsSound s) (he : u.ev = s.ev) (ha : u.mgmt.params.alertLevel = s.mgmt.params.alertLevel)
    (hb : u.bridge.state = s.bridge.state) : EventsSound u := by
  unfold EventsSound State.alertCondition at hs ⊢
  rwa [he, ha, hb]

theorem eventsSound_refreshAlert (h : s.ev.law) : EventsSound s.refreshAlert := ⟨h, rfl⟩

/-- The numbering of a queue, record by record. -/
theorem eventUnit_law_iff {u : EventUnit} : u.law ↔ u.queue.length ≤ 64 ∧
    (∀ i r, u.queue[i]? = some r → r.seq + BitVec.ofNat 16 (u.queue.length - i) = u.nextSeq) ∧
      (u.lost ≠ 0 → u.queue.length = 64) ∧ u.lost ≤ 65535 := by
  unfold EventUnit.law
  refine and_congr_right fun _ => and_congr_left fun _ => ⟨fun h i r hr => ?_, fun h i => ?_⟩
  · obtain ⟨hi, rfl⟩ := List.getElem?_eq_some_iff.mp hr
    exact h ⟨i, hi⟩
  · exact h i _ (List.getElem?_eq_some_iff.mpr ⟨i.isLt, rfl⟩)

/-- One more record in a queue numbered up to `n`. -/
theorem seq_append {l : List EventRecord} {n : BitVec 16} (h : ∀ i r, l[i]? = some r → r.seq + BitVec.ofNat 16 (l.length - i) = n)
    {e : EventRecord} (he : e.seq = n) :
    ∀ i r, (l ++ [e])[i]? = some r → r.seq + BitVec.ofNat 16 ((l ++ [e]).length - i) = n + 1 := by
  intro i r hr
  rw [List.length_append, List.length_singleton]
  rcases Nat.lt_or_ge i l.length with hi | hi
  · rw [List.getElem?_append_left hi] at hr
    rw [show l.length + 1 - i = (l.length - i) + 1 by omega, BitVec.ofNat_add, ← BitVec.add_assoc, h i r hr]
    rfl
  · rw [List.getElem?_append_right hi] at hr
    obtain ⟨hzero, rfl⟩ : i - l.length = 0 ∧ e = r := by
      cases hj : i - l.length with
      | zero => rw [hj] at hr; simpa using hr
      | succ j => rw [hj] at hr; simp at hr
    rw [show l.length + 1 - i = 1 by omega, he]
    rfl

theorem append_law {u : EventUnit} (h : u.law) (pass : BitVec 16) (e : Event) : (u.append pass e).law := by
  rw [eventUnit_law_iff] at h ⊢
  obtain ⟨hlen, hseq, hlost, hbound⟩ := h
  rcases Nat.lt_or_ge u.queue.length 64 with hroom | hfull
  · rw [append_of_room hroom]
    refine ⟨by simp; omega, seq_append hseq rfl, fun h => ?_, hbound⟩
    have := hlost h
    omega
  · rw [append_of_full hfull]
    refine ⟨hlen, hseq, fun _ => by dsimp only; omega, ?_⟩
    dsimp only
    split <;> omega

theorem popped_law {u : EventUnit} (h : u.law) {r : EventRecord} {rest : List EventRecord} (hq : u.queue = r :: rest)
    (pass : BitVec 16) : (u.popped pass rest).law := by
  rw [eventUnit_law_iff] at h ⊢
  obtain ⟨hlen, hseq, hlost, hbound⟩ := h
  rw [hq, List.length_cons] at hlen hlost
  have hrest : ∀ i r, rest[i]? = some r → r.seq + BitVec.ofNat 16 (rest.length - i) = u.nextSeq := by
    intro i r' hr'
    have := hseq (i + 1) r' (by rw [hq]; simpa using hr')
    rwa [hq, List.length_cons, Nat.add_sub_add_right] at this
  unfold EventUnit.popped
  split
  · next hzero => exact ⟨by dsimp only; omega, hrest, fun h => absurd hzero h, hbound⟩
  · exact ⟨by simpa using hlen, seq_append hrest rfl, fun h => absurd rfl h, by simp⟩

theorem eventsSound_logEvent (hs : s.ev.law) (e : Event) : EventsSound (s.logEvent e) :=
  eventsSound_refreshAlert (append_law hs _ e)

theorem eventsSound_of_flow (hs : EventsSound s) (h : Flow x s t) : EventsSound t := by
  induction h with
  | trans _ _ ih ih' => exact ih' (ih hs)
  | log s e => exact eventsSound_logEvent hs.1 e
  | closeVisit s e =>
    rw [closeVisit_eq]
    split
    · exact eventsSound_of_eq (eventsSound_logEvent (s := s.setPatrol (nextPass (visited s.patrol e))) hs.1 _) rfl rfl rfl
    · exact hs
  | finishTest s j r => exact eventsSound_logEvent hs.1 _
  | mgmt s m _ hp => exact eventsSound_of_eq hs rfl (by simp [hp]) rfl
  | bridge s b hb => exact eventsSound_of_eq hs rfl rfl hb
  | _ => exact hs

theorem endTestSilently_ev (s : State) : s.endTestSilently.ev = s.ev := by
  unfold State.endTestSilently; split <;> rfl

theorem endTestSilently_bridge (s : State) : s.endTestSilently.bridge = s.bridge := by
  unfold State.endTestSilently; split <;> rfl

theorem endTestSilently_mgmt (s : State) : s.endTestSilently.mgmt = s.mgmt := by
  unfold State.endTestSilently; split <;> rfl

/-- The soft reset's one event is the change of the bridge state. -/
theorem softReset_ev (s : State) : s.softReset.ev = (s.changeBridge .standby).ev := by
  rw [State.softReset, softResetDiag_eq, softResetEngine_eq]; rfl

theorem softReset_bridge (s : State) :
    s.softReset.bridge = { (s.changeBridge .standby).bridge with cursor := none, fromMemory := [], fromHandler := [] } := by
  rw [State.softReset, softResetDiag_eq, softResetEngine_eq]; rfl

theorem softReset_params (s : State) : s.softReset.mgmt.params = s.mgmt.params := by
  rw [State.softReset, softResetDiag_eq, softResetEngine_eq]; rfl

theorem eventsSound_of_run (hs : EventsSound s) (h : Run c x s t) : EventsSound t := by
  induction h with
  | trans _ _ ih ih' => exact ih' (ih hs)
  | flow h => exact eventsSound_of_flow hs h
  | arranged key h ih => exact eventsSound_of_eq (ih hs) rfl rfl rfl
  | bridge s b hb => exact eventsSound_of_eq hs rfl rfl hb
  | change s b e => exact eventsSound_logEvent (s := s.setBridge b) hs.1 e
  | param s p _ _ _ _ ha => exact eventsSound_of_eq hs rfl ha rfl
  | alertLevel s p => exact eventsSound_refreshAlert (s := s.setMgmt _) hs.1
  | geometry s i v _ _ ha =>
    refine eventsSound_of_eq hs (endTestSilently_ev (s.setParam i v)) ?_
      (congrArg Bridge.state (endTestSilently_bridge (s.setParam i v)))
    exact (congrArg (fun m => m.params.alertLevel) (endTestSilently_mgmt (s.setParam i v))).trans ha
  | popped s r rest h => exact eventsSound_refreshAlert (s := s.setEv _) (popped_law hs.1 h _)
  | softReset s =>
    have hchanged : EventsSound (s.changeBridge .standby) :=
      eventsSound_refreshAlert (s := (s.setBridge _).setEv _) (append_law hs.1 _ _)
    exact eventsSound_of_eq hchanged (softReset_ev s) (by rw [softReset_params]; rfl) (by rw [softReset_bridge])
  | _ => exact hs

/-! ### What only some commands change -/

theorem softReset_pending (s : State) : s.softReset.pending = s.pending := by
  rw [State.softReset, softResetDiag_eq, softResetEngine_eq]; rfl

theorem softReset_resetLow (s : State) : s.softReset.resetLow = s.resetLow := by
  rw [State.softReset, softResetDiag_eq, softResetEngine_eq]; rfl

theorem softReset_map (s : State) : s.softReset.map = s.map := by
  rw [State.softReset, softResetDiag_eq, softResetEngine_eq]; rfl

theorem softReset_mgmt (s : State) : s.softReset.mgmt.address = s.mgmt.address ∧ s.softReset.mgmt.reply = s.mgmt.reply ∧
    s.softReset.mgmt.view = s.mgmt.view := by
  rw [State.softReset, softResetDiag_eq, softResetEngine_eq]
  exact ⟨rfl, rfl, rfl⟩

theorem endTestSilently_pending (s : State) : s.endTestSilently.pending = s.pending := by
  unfold State.endTestSilently; split <;> rfl

theorem endTestSilently_resetLow (s : State) : s.endTestSilently.resetLow = s.resetLow := by
  unfold State.endTestSilently; split <;> rfl

theorem endTestSilently_generation (s : State) : s.endTestSilently.mem.generation = s.mem.generation := by
  unfold State.endTestSilently; split <;> rfl

/-- What a run changes only for the commands it belongs to. -/
structure Owned (c : Instr) (s t : State) : Prop where
  pending : t.pending = s.pending
  resetLow : t.resetLow = s.resetLow
  address : t.mgmt.address = s.mgmt.address
  params : (∀ i v, c ≠ .configSet i v) → t.mgmt.params = s.mgmt.params
  reply : ¬ Framed c → t.mgmt.reply = s.mgmt.reply
  view : c ≠ .diagSwap → t.mgmt.view = s.mgmt.view
  generation : c ≠ .softReset → t.mem.generation = s.mem.generation

theorem Owned.refl (c : Instr) (s : State) : Owned c s s := ⟨rfl, rfl, rfl, fun _ => rfl, fun _ => rfl, fun _ => rfl, fun _ => rfl⟩

theorem Owned.trans {u : State} (h : Owned c s t) (h' : Owned c t u) : Owned c s u :=
  ⟨h'.pending.trans h.pending, h'.resetLow.trans h.resetLow, h'.address.trans h.address,
    fun hc => (h'.params hc).trans (h.params hc), fun hc => (h'.reply hc).trans (h.reply hc),
    fun hc => (h'.view hc).trans (h.view hc), fun hc => (h'.generation hc).trans (h.generation hc)⟩

theorem geometry_owned (s : State) (i : Byte) (v : Nat) (hc : ∃ i v, c = .configSet i v) :
    Owned c s (s.setParam i v).geometryChange := by
  obtain ⟨i', v', rfl⟩ := hc
  have hmgmt : ((s.setParam i v).geometryChange).mgmt = (s.setParam i v).mgmt := endTestSilently_mgmt _
  exact ⟨endTestSilently_pending _, endTestSilently_resetLow _, by rw [hmgmt]; rfl, fun h => absurd rfl (h i' v'),
    fun _ => by rw [hmgmt]; rfl, fun _ => by rw [hmgmt]; rfl, fun _ => endTestSilently_generation _⟩

theorem owned_of_run (h : Run c x s t) : Owned c s t := by
  induction h with
  | trans _ _ ih ih' => exact ih.trans ih'
  | flow h =>
    have hb := h.base
    exact ⟨hb.pending, hb.resetLow, hb.address, fun _ => hb.params, fun _ => hb.reply, fun _ => hb.view, fun _ => hb.generation⟩
  | reply s st b h => exact ⟨rfl, rfl, rfl, fun _ => rfl, fun hc => absurd h hc, fun _ => rfl, fun _ => rfl⟩
  | arranged key h ih => exact ⟨ih.pending, ih.resetLow, ih.address, ih.params, ih.reply, ih.view, ih.generation⟩
  | param s p hc =>
    obtain ⟨i, v, rfl⟩ := hc
    exact ⟨rfl, rfl, rfl, fun h => absurd rfl (h i v), fun _ => rfl, fun _ => rfl, fun _ => rfl⟩
  | alertLevel s p hc =>
    obtain ⟨i, v, rfl⟩ := hc
    exact ⟨rfl, rfl, rfl, fun h => absurd rfl (h i v), fun _ => rfl, fun _ => rfl, fun _ => rfl⟩
  | geometry s i v hc => exact geometry_owned s i v hc
  | swap s hc => exact ⟨rfl, rfl, rfl, fun _ => rfl, fun _ => rfl, fun h => absurd hc h, fun _ => rfl⟩
  | softReset s hc =>
    obtain ⟨haddress, hreply, hview⟩ := softReset_mgmt s
    exact ⟨softReset_pending s, softReset_resetLow s, haddress, fun _ => softReset_params s, fun _ => hreply, fun _ => hview,
      fun h => absurd hc h⟩
  | _ => exact ⟨rfl, rfl, rfl, fun _ => rfl, fun _ => rfl, fun _ => rfl, fun _ => rfl⟩

/-- Settles O2: each single change of a run leaves these fields, but for the commands named. -/
theorem onlyTheirCommandsChange : Obligations.OnlyTheirCommandsChange := by
  intro c s t h
  by_cases hc : ∃ edge straps, c = .hardReset edge straps
  · obtain ⟨edge, straps, rfl⟩ := hc
    cases edge with
    | fall =>
      cases h
      exact ⟨rfl, fun hc => absurd rfl (hc _ _), fun _ => ⟨rfl, fun _ => rfl, fun _ _ => rfl, fun _ => rfl, fun _ => rfl⟩⟩
    | rise =>
      cases h
      exact ⟨rfl, fun hc => absurd rfl (hc _ _), fun hc => absurd rfl (hc _)⟩
  · have hrun := owned_of_run (exec_run ready_open (fun edge straps he => hc ⟨edge, straps, he⟩) h)
    refine ⟨hrun.pending, fun _ => hrun.resetLow, fun _ =>
      ⟨hrun.address, hrun.params, fun hparts hframe => hrun.reply ?_, hrun.view, hrun.generation⟩⟩
    rintro (hsome | ⟨f, rfl⟩)
    · simp [hparts] at hsome
    · exact hframe f rfl

/-- Settles O50: an event is logged in its turn with ALERT_N re-evaluated, and the bridge state and ALERT_LEVEL change with a
re-evaluation only. -/
theorem eventAndAlertLawsKept : Obligations.EventAndAlertLawsKept := by
  intro c s t hev halert h
  refine kept_by_commands (L := fun s => s.ev.law ∧ AlertLaw s) (fun s hs => ⟨hs.1, ?_⟩) (fun s straps _ => ?_)
    (fun c s t hc h hs => ?_) h ⟨hev, halert⟩
  · simp [AlertLaw, State.holdInReset]
  · refine ⟨eventUnit_law_iff.mpr ?_, ?_⟩ <;> simp [AlertLaw, State.endReset, State.reset, Params.default]
  · cases hlow : s.resetLow with
    | true =>
      rw [exec_of_held hlow hc] at h
      cases h
      exact hs
    | false =>
      have hrun := exec_run ready_open hc h
      have hlow' := (owned_of_run hrun).resetLow.trans hlow
      rw [alertLaw_iff hlow] at hs
      rw [alertLaw_iff hlow']
      exact eventsSound_of_run hs hrun

/-! ### The map's entries (R17, R27) -/

theorem MapStays.refl (m : List MapEntry) : MapStays m m := fun _ e h => ⟨e, h, rfl, rfl⟩

theorem MapStays.trans {m m' m'' : List MapEntry} (h : MapStays m m') (h' : MapStays m' m'') : MapStays m m'' := by
  intro r e he
  obtain ⟨e', he', hregion, horigin⟩ := h r e he
  obtain ⟨e'', he'', hregion', horigin'⟩ := h' r e' he'
  exact ⟨e'', he'', hregion'.trans hregion, horigin'.trans horigin⟩

theorem endTestSilently_map (s : State) : s.endTestSilently.map = s.map := by
  unfold State.endTestSilently; split <;> rfl

theorem mapStays_of_run (h : Run c x s t) : MapStays s.map t.map := by
  induction h with
  | trans _ _ ih ih' => exact ih.trans ih'
  | flow h => rw [h.base.map]; exact .refl _
  | arranged key h ih => exact ih
  | map s m _ _ hm => exact hm
  | geometry s i v => rw [show ((s.setParam i v).geometryChange).map = s.map from endTestSilently_map _]; exact .refl _
  | softReset s => rw [softReset_map]; exact .refl _
  | _ => exact .refl _

/-- Settles O10: a run changes the map by insertions and by updates that keep region and origin. -/
theorem mapEntriesStay : Obligations.MapEntriesStay := by
  intro c s t r e h hrise he
  by_cases hc : ∃ edge straps, c = .hardReset edge straps
  · obtain ⟨edge, straps, rfl⟩ := hc
    cases edge with
    | fall => cases h; exact ⟨e, he, rfl, rfl⟩
    | rise => exact absurd rfl (hrise straps)
  · exact mapStays_of_run (exec_run ready_open (fun edge straps he => hc ⟨edge, straps, he⟩) h) r e he

/-! ### CONTAIN (R138, R170) -/

/-- What stands in CONTAIN. -/
structure Contained (s t : State) : Prop where
  state : t.bridge.state = .contain
  history : t.bridge.history = s.bridge.history
  memOut : t.memOut = s.memOut
  active : t.mem.active ⊆ s.mem.active
  map : t.map = s.map

theorem Contained.refl (h : s.bridge.state = .contain) : Contained s s := ⟨h, rfl, rfl, List.Subset.refl _, rfl⟩

theorem Contained.trans {u : State} (h : Contained s t) (h' : Contained t u) : Contained s u :=
  ⟨h'.state, h'.history.trans h.history, h'.memOut.trans h.memOut, List.Subset.trans h'.active h.active, h'.map.trans h.map⟩

theorem contained_of_flow (h : Flow x s t) (hb : s.bridge.state = .contain) : Contained s t := by
  have hbase := h.base
  suffices hmem : t.memOut = s.memOut ∧ t.mem.active ⊆ s.mem.active from
    ⟨hbase.state.trans hb, hbase.history, hmem.1, hmem.2, hbase.map⟩
  clear hbase
  induction h with
  | trans h _ ih ih' =>
    obtain ⟨hout, hactive⟩ := ih hb
    obtain ⟨hout', hactive'⟩ := ih' (h.base.state.trans hb)
    exact ⟨hout'.trans hout, List.Subset.trans hactive' hactive⟩
  | sendOp s g r _ hne => exact absurd hb hne
  | closeVisit s e => simp
  | _ => exact ⟨rfl, List.Subset.refl _⟩

theorem contained_of_run (h : Run c x s t) (hc : c ≠ .softReset) (hb : s.bridge.state = .contain) : Contained s t := by
  induction h with
  | trans _ _ ih ih' => exact (ih hb).trans (ih' (ih hb).state)
  | flow h => exact contained_of_flow h hb
  | arranged key h ih =>
    have h := ih hb
    exact ⟨h.state, h.history, h.memOut, h.active, h.map⟩
  | complete s g => exact ⟨hb, rfl, rfl, fun _ ha => List.mem_of_mem_filter ha, rfl⟩
  | quarantine s g => exact ⟨hb, rfl, rfl, fun _ ha => List.mem_of_mem_filter ha, rfl⟩
  | map s m _ hne => exact absurd hb hne
  | bridge s b hs hh => exact ⟨hs.trans hb, hh, rfl, List.Subset.refl _, rfl⟩
  | change s b e hne => exact absurd hb hne
  | geometry s i v _ _ _ hstandby => rw [hstandby] at hb; cases hb
  | softReset s h => exact absurd h hc
  | _ => exact ⟨hb, rfl, rfl, List.Subset.refl _, rfl⟩

/-- Settles O45: the runs that change the map, or the bridge state, or issue an operation, do so outside CONTAIN. -/
theorem containmentHolds : Obligations.ContainmentHolds := by
  intro c s t hb hrise hsoft h
  by_cases hc : ∃ edge straps, c = .hardReset edge straps
  · obtain ⟨edge, straps, rfl⟩ := hc
    cases edge with
    | fall => cases h; exact ⟨hb, rfl, rfl, fun _ ha => ha, rfl⟩
    | rise => exact absurd rfl (hrise straps)
  · have hrun := contained_of_run (exec_run ready_open (fun edge straps he => hc ⟨edge, straps, he⟩) h) hsoft hb
    exact ⟨hrun.state, hrun.history, hrun.memOut, fun _ ha => hrun.active ha, hrun.map⟩

/-! ### Parameters, Bridge Control and patrol position (R114, R124, R131, R133, R177) -/

theorem add_total (k : PassCounts) (e : VisitEnd) : (k.add e).checked + (k.add e).skipped = k.checked + k.skipped + 1 := by
  rcases e with _ | _ | _ | _ | _ | tally
  case timeout => cases tally <;> simp only [PassCounts.add] <;> omega
  all_goals
    simp only [PassCounts.add]
    try omega

theorem nextPass_law {p : Patrol} {V : Nat} (h : 0 < V) : (nextPass p).law V :=
  ⟨by simp [nextPass]; omega, by simp [nextPass, PassCounts.zero]⟩

theorem closeVisit_law (hs : s.patrol.law s.V) (e : VisitEnd) : (s.closeVisit e).patrol.law s.V := by
  obtain ⟨hposition, hcounts⟩ := hs
  rw [closeVisit_eq]
  split
  · exact nextPass_law (by omega)
  · have htotal := add_total s.patrol.counts e
    refine ⟨?_, ?_⟩
    · simp only [State.setPatrol_patrol, visited]
      omega
    · simp only [State.setPatrol_patrol, visited]
      omega

theorem bridge_law_of_moves {b b' : Bridge} {P : Nat} (h : b.law P) (hs : b'.state = b.state) (hh : b'.history = b.history)
    (hr : b'.record = b.record) (hc : CursorMoves (P * 64) b.cursor b'.cursor) : b'.law P := by
  obtain ⟨hlen, hrec, hformat, hline⟩ := h
  obtain ⟨hsome, hmoves⟩ := hc
  refine ⟨hh ▸ hlen, hr ▸ hrec, by rw [hsome, hs]; exact hformat, fun k hk => ?_⟩
  obtain ⟨k', hk', hmove⟩ := hmoves k hk
  have := hline k' hk'
  omega

theorem controlLaw_of_flow (hs : ControlLaw s) (h : Flow x s t) : ControlLaw t := by
  induction h with
  | trans _ _ ih ih' => exact ih' (ih hs)
  | patrol s p hp hc =>
    obtain ⟨hparams, hbridge, hposition⟩ := hs
    refine ⟨hparams, hbridge, ?_⟩
    rw [Patrol.law] at hposition ⊢
    rw [State.setPatrol_patrol, hp, hc]
    exact hposition
  | closeVisit s e =>
    obtain ⟨hparams, hbridge, hposition⟩ := hs
    have hmgmt := closeVisit_mgmt s e
    have hP : (s.closeVisit e).P = s.P := congrArg (fun m => m.params.memRegions) hmgmt
    have hV : (s.closeVisit e).V = s.V := congrArg (fun m => m.params.memRegions - m.params.spareCount) hmgmt
    exact ⟨by rw [hmgmt]; exact hparams, by rw [closeVisit_bridge, hP]; exact hbridge, by rw [hV]; exact closeVisit_law hposition e⟩
  | mgmt s m _ hp =>
    obtain ⟨hparams, hbridge, hposition⟩ := hs
    rw [ControlLaw, State.V, State.P, State.S, State.setMgmt_mgmt, hp]
    exact ⟨hparams, hbridge, hposition⟩
  | bridge s b hb hh hr hc =>
    obtain ⟨hparams, hbridge, hposition⟩ := hs
    exact ⟨hparams, bridge_law_of_moves hbridge hb hh hr hc, hposition⟩
  | _ => exact hs

theorem controlLaw_setBridge (hs : ControlLaw s) {b : Bridge} (hb : BridgeKeeps s.bridge b) : ControlLaw (s.setBridge b) := by
  obtain ⟨hparams, hbridge, hposition⟩ := hs
  have hP : 0 < s.P := by
    obtain ⟨⟨hP, -⟩, -⟩ := hparams
    exact lt_of_lt_of_le (by decide) hP
  exact ⟨hparams, hb s.P hP hbridge, hposition⟩

theorem controlLaw_setParams (hs : ControlLaw s) {p : Params} (hl : p.law) (hP : p.memRegions = s.mgmt.params.memRegions)
    (hS : p.spareCount = s.mgmt.params.spareCount) : ControlLaw (s.setMgmt { s.mgmt with params := p }) := by
  obtain ⟨-, hbridge, hposition⟩ := hs
  refine ⟨hl, ?_, ?_⟩
  · rw [State.P, State.setMgmt_mgmt, hP]
    exact hbridge
  · rw [State.V, State.P, State.S, State.setMgmt_mgmt, hP, hS]
    exact hposition

theorem geometry_controlLaw (hs : ControlLaw s) {i : Byte} {v : Nat} (hl : (s.mgmt.params.set i.toNat v).law)
    (hb : s.bridge.state = .standby) : ControlLaw (s.setParam i v).geometryChange := by
  obtain ⟨-, ⟨hlen, hrec, hformat, -⟩, -⟩ := hs
  have hnone : s.bridge.cursor = none := by
    cases hcursor : s.bridge.cursor with
    | none => rfl
    | some k => simp [hcursor, hb] at hformat
  have hV : 0 < (s.mgmt.params.set i.toNat v).memRegions - (s.mgmt.params.set i.toNat v).spareCount := by
    obtain ⟨-, ⟨-, hlt⟩, -⟩ := hl
    omega
  have hmgmt : ((s.setParam i v).geometryChange).mgmt = (s.setParam i v).mgmt := endTestSilently_mgmt _
  have hbridge : ((s.setParam i v).geometryChange).bridge = s.bridge := endTestSilently_bridge _
  rw [ControlLaw, State.V, State.P, State.S, hmgmt, hbridge]
  refine ⟨hl, ⟨hlen, hrec, hformat, fun k hk => ?_⟩, ?_, rfl⟩
  · rw [hnone] at hk
    cases hk
  · exact Nat.mul_pos hV (by decide)

theorem softReset_controlLaw (hs : ControlLaw s) : ControlLaw s.softReset := by
  obtain ⟨hparams, ⟨-, hrec, -, -⟩, hposition⟩ := hs
  have hpatrol : s.softReset.patrol.position = s.patrol.position ∧ s.softReset.patrol.counts = s.patrol.counts := by
    rw [State.softReset, softResetDiag_eq, softResetEngine_eq]
    exact ⟨rfl, rfl⟩
  rw [ControlLaw, State.V, State.P, State.S, softReset_params, softReset_bridge, Patrol.law, hpatrol.1, hpatrol.2]
  exact ⟨hparams, ⟨pushHistory_length _ _, hrec, by simp, by simp⟩, hposition⟩

theorem controlLaw_of_run (hs : ControlLaw s) (h : Run c x s t) : ControlLaw t := by
  induction h with
  | trans _ _ ih ih' => exact ih' (ih hs)
  | flow h => exact controlLaw_of_flow hs h
  | arranged key h ih => exact ih hs
  | bridge s b _ _ hb => exact controlLaw_setBridge hs hb
  | change s b e _ _ hb => exact controlLaw_setBridge hs hb
  | param s p _ hl hP hS => exact controlLaw_setParams hs (hl hs.1) hP hS
  | alertLevel s p _ hl hP hS => exact controlLaw_setParams hs (hl hs.1) hP hS
  | geometry s i v _ hl _ hb => exact geometry_controlLaw hs (hl hs.1) hb
  | softReset s => exact softReset_controlLaw hs
  | _ => exact hs

/-- The parameters after hard reset (R177). -/
theorem default_law : Params.default.law := by
  unfold Params.law
  decide

theorem endReset_controlLaw (s : State) (straps : Straps) : ControlLaw (s.endReset straps) := by
  refine ⟨default_law, ⟨by simp [State.endReset, State.reset], ?_⟩, ?_, rfl⟩
  · simp [State.endReset, State.reset]
  · exact (by decide : 0 < (262144 - 64) * 64)

/-- Settles O58: each single change of a run keeps the parameters in range, the history cut at four states, the cursor with
FORMAT, and the position with its counts. -/
theorem controlLawKept : Obligations.ControlLawKept := by
  intro c s t hs h
  exact kept_by_commands (L := ControlLaw) (fun s hs => hs) (fun s straps _ => endReset_controlLaw s straps)
    (fun c s t hc h hs => controlLaw_of_run hs (exec_run ready_open hc h)) h hs

end Sys2Proof.Proofs
end

section
/-! The laws of map, pool, queue and engine (R16 to R18, R33, R38, R42, R55): what each change of the map does to them, and that
every command keeps them. -/

-- Fewer threads at once: each takes a part of the memory that a check of the whole text may use.
set_option Elab.async false

namespace Sys2Proof.Proofs

open Sys2Proof Sys2Proof.Machine

variable {c : Instr} {x : Scope} {s t : State}

/-! ### The spares that a map names (R16, R33) -/

/-- The spare indices that one entry names. -/
def namesOf (V : Nat) (e : MapEntry) : List Nat := e.spare :: (e.oldSpare? V).toList

theorem namedSpares_cons (V : Nat) (e : MapEntry) (m : List MapEntry) :
    (namedSpares V (e :: m)).Perm (namesOf V e ++ namedSpares V m) := by
  unfold namedSpares namesOf
  rw [List.map_cons, List.filterMap_cons]
  cases e.oldSpare? V with
  | none => exact .refl _
  | some i => exact List.Perm.cons _ List.perm_middle

theorem namedSpares_perm (V : Nat) {m m' : List MapEntry} (h : m.Perm m') : (namedSpares V m).Perm (namedSpares V m') :=
  (h.map _).append (h.filterMap _)

theorem insertEntry_perm (e : MapEntry) (m : List MapEntry) : (insertEntry e m).Perm (e :: m) := by
  induction m with
  | nil => exact .refl _
  | cons y m ih =>
    rw [insertEntry]
    split
    · exact .refl _
    · exact (ih.cons y).trans (.swap e y m)

theorem ascending_insertEntry {e : MapEntry} {m : List MapEntry} (hs : Ascending m) (hne : ∀ y ∈ m, y.region ≠ e.region) :
    Ascending (insertEntry e m) := by
  induction m with
  | nil => simp [insertEntry, Ascending]
  | cons y m ih =>
    have hy := hne y (by simp)
    obtain ⟨hlt, hrest⟩ := List.pairwise_cons.mp hs
    rw [insertEntry]
    split
    · next h =>
      refine List.pairwise_cons.mpr ⟨?_, hs⟩
      simp only [List.mem_cons, forall_eq_or_imp]
      exact ⟨h, fun z hz => h.trans (hlt z hz)⟩
    · next h =>
      refine List.pairwise_cons.mpr ⟨fun z hz => ?_, ih hrest fun z hz => hne z (by simp [hz])⟩
      rcases List.mem_cons.mp ((insertEntry_perm e m).mem_iff.mp hz) with rfl | hz
      · omega
      · exact hlt z hz

/-- The entry of a region is changed in place, the entries before and after it kept. -/
theorem updateEntry_split {m : List MapEntry} {r : Nat} {e : MapEntry} (hs : Ascending m) (h : findEntry m r = some e) :
    ∃ l l', m = l ++ e :: l' ∧ e.region = r ∧ (∀ y ∈ l ++ l', y.region ≠ r) ∧ ∀ f, updateEntry m r f = l ++ f e :: l' := by
  have hregion : e.region = r := by simpa using List.find?_some h
  obtain ⟨l, l', rfl⟩ := List.append_of_mem (List.mem_of_find?_eq_some h)
  obtain ⟨-, hl', hbefore⟩ := List.pairwise_append.mp hs
  have hafter := (List.pairwise_cons.mp hl').1
  have hne : ∀ y ∈ l ++ l', y.region ≠ r := by
    intro y hy
    rcases List.mem_append.mp hy with hy | hy
    · have := hbefore y hy e (by simp)
      omega
    · have := hafter y hy
      omega
  have hkeep : ∀ (f : MapEntry → MapEntry) (k : List MapEntry), (∀ y ∈ k, y.region ≠ r) → updateEntry k r f = k := by
    intro f k hk
    refine (List.map_congr_left fun y hy => ?_).trans (List.map_id k)
    rw [if_neg (hk y hy)]
    rfl
  refine ⟨l, l', rfl, hregion, hne, fun f => ?_⟩
  have hl : updateEntry l r f = l := hkeep f l fun y hy => hne y (by simp [hy])
  have hl' : updateEntry l' r f = l' := hkeep f l' fun y hy => hne y (by simp [hy])
  unfold updateEntry at hl hl' ⊢
  rw [List.map_append, List.map_cons, hl, hl', if_pos hregion]

/-- The map's law when an entry takes the place of another, or is new: `rest` are the entries beside it. -/
theorem mapLaw_of_perm {V S : Nat} {m rest : List MapEntry} {e : MapEntry} (hperm : m.Perm (e :: rest)) (hs : Ascending m)
    (he : e.law V S) (hrest : ∀ y ∈ rest, y.law V S) (hnames : (namesOf V e ++ namedSpares V rest).Nodup)
    (hcopy : rest.countP MapEntry.isCopying + (if e.isCopying then 1 else 0) ≤ 1) : MapLaw V S m := by
  refine ⟨hs, fun y hy => ?_, ?_, ?_⟩
  · rcases List.mem_cons.mp (hperm.mem_iff.mp hy) with rfl | hy
    · exact he
    · exact hrest y hy
  · exact (((namedSpares_perm V hperm).trans (namedSpares_cons V e rest)).nodup_iff).mpr hnames
  · rw [hperm.countP_eq, List.countP_cons]
    simpa using hcopy

/-- What the map's law says of an entry and the entries beside it. -/
theorem mapLaw_beside {V S : Nat} {m rest : List MapEntry} {e : MapEntry} (h : MapLaw V S m) (hperm : m.Perm (e :: rest)) :
    e.law V S ∧ (∀ y ∈ rest, y.law V S) ∧ (namesOf V e ++ namedSpares V rest).Nodup ∧
      rest.countP MapEntry.isCopying + (if e.isCopying then 1 else 0) ≤ 1 := by
  obtain ⟨-, hlaw, hnames, hcopy⟩ := h
  refine ⟨hlaw e (hperm.mem_iff.mpr (by simp)), fun y hy => hlaw y (hperm.mem_iff.mpr (by simp [hy])), ?_, ?_⟩
  · exact (((namedSpares_perm V hperm).trans (namedSpares_cons V e rest)).nodup_iff).mp hnames
  · rw [hperm.countP_eq, List.countP_cons] at hcopy
    simpa using hcopy

theorem mem_namedSpares_iff {V : Nat} {m rest : List MapEntry} {e : MapEntry} (hperm : m.Perm (e :: rest)) {i : Nat} :
    i ∈ namedSpares V m ↔ i ∈ namesOf V e ∨ i ∈ namedSpares V rest := by
  rw [((namedSpares_perm V hperm).trans (namedSpares_cons V e rest)).mem_iff, List.mem_append]

theorem perm_split (l l' : List MapEntry) (e : MapEntry) : (l ++ e :: l').Perm (e :: (l ++ l')) := List.perm_middle

/-- Updating one entry keeps the regions, and so their order. -/
theorem ascending_updateEntry {m : List MapEntry} (hs : Ascending m) (r : Nat) {f : MapEntry → MapEntry}
    (hf : ∀ e, (f e).region = e.region) : Ascending (updateEntry m r f) := by
  refine List.pairwise_map.mpr (hs.imp fun {a b} h => ?_)
  have hkeep (e : MapEntry) : (if e.region = r then f e else e).region = e.region := by split <;> simp [hf]
  rw [hkeep, hkeep]
  exact h

/-! ### The laws without STANDBY's -/

/-- The laws of map, pool, queue and engine. -/
def RepairCore (s : State) : Prop := MapLaw s.V s.S s.map ∧ PoolLaw s ∧ QueueLaw s ∧ EngineLaw s

theorem repairLaw_iff : RepairLaw s ↔ RepairCore s ∧ StandbyLaw s := by
  simp [RepairLaw, RepairCore, and_assoc]

/-- Out of STANDBY the core is all. -/
theorem repairLaw_of_core (h : RepairCore s) (hb : s.bridge.state ≠ .standby) : RepairLaw s :=
  repairLaw_iff.mpr ⟨h, fun hs => absurd hs hb⟩

/-- The state's map, pool and queue are the same, and its engine has the same job or test. -/
structure SameRepair (s t : State) : Prop where
  V : t.V = s.V
  S : t.S = s.S
  map : t.map = s.map
  spares : t.spares = s.spares
  queue : t.queue = s.queue
  role : role t.engine = role s.engine

theorem SameRepair.refl (s : State) : SameRepair s s := ⟨rfl, rfl, rfl, rfl, rfl, rfl⟩

theorem SameRepair.trans {u : State} (h : SameRepair s t) (h' : SameRepair t u) : SameRepair s u :=
  ⟨h'.V.trans h.V, h'.S.trans h.S, h'.map.trans h.map, h'.spares.trans h.spares, h'.queue.trans h.queue, h'.role.trans h.role⟩

/-- The engine tests this spare. -/
def Tests (e : EngineState) (i : Nat) : Prop := match e with | .testing t => t.index = i | _ => False

theorem poolLaw_iff : PoolLaw s ↔ s.spares.length = s.S ∧ (∀ i < s.S, s.spares[i]? = some .inUse ↔ i ∈ namedSpares s.V s.map) ∧
    ∀ i < s.S, s.spares[i]? = some .testing ↔ Tests s.engine i := Iff.rfl

theorem tests_congr {e e' : EngineState} (h : role e = role e') (i : Nat) : Tests e i ↔ Tests e' i := by
  cases e <;> cases e' <;> simp_all [role, Tests]

/-- The current job is that of the COPYING entry, or names a spare that was FREE or BAD and runs with no COPYING entry. -/
def EngineFits (S : Nat) (m : List MapEntry) (e : EngineState) : Prop :=
  let isJob (j : CopyJob) : Prop :=
    ∃ e ∈ m, e.region = j.region ∧ e.spare = j.spare ∧ e.state = .copying j.kind j.source j.cursor
  match e with
  | .idle => True
  | .halted _ => True
  | .copying j => isJob j
  | .suspended j => isJob j
  | .testing t => t.index < S ∧ (t.before = .free ∨ t.before = .bad) ∧ ∀ e ∈ m, e.isCopying = false

theorem engineLaw_iff : EngineLaw s ↔ EngineFits s.S s.map s.engine := Iff.rfl

theorem engineFits_congr {S : Nat} {m : List MapEntry} {e e' : EngineState} (h : role e = role e') :
    EngineFits S m e ↔ EngineFits S m e' := by
  cases e <;> cases e' <;> simp_all [role, EngineFits]

theorem repairCore_congr (h : SameRepair s t) (hs : RepairCore s) : RepairCore t := by
  obtain ⟨hmap, hpool, hqueue, hengine⟩ := hs
  refine ⟨by rw [h.V, h.S, h.map]; exact hmap, ?_, ?_, ?_⟩
  · rw [poolLaw_iff] at hpool ⊢
    rw [h.spares, h.S, h.V, h.map]
    exact ⟨hpool.1, hpool.2.1, fun i hi => (hpool.2.2 i hi).trans (tests_congr h.role i).symm⟩
  · rw [QueueLaw, h.queue, h.V, h.map]
    exact hqueue
  · rw [engineLaw_iff, h.S, h.map]
    exact (engineFits_congr h.role).mpr hengine

/-! ### Flows keep the laws -/

/-- Outside CONTAIN, a flow that may end no test leaves map, pool, queue and job. -/
theorem Flow.sameRepair (h : Flow x s t) (hx : ¬ x.ends) (hb : s.bridge.state ≠ .contain) : SameRepair s t := by
  have hbase := h.base
  refine ⟨?_, ?_, hbase.map, ?_, hbase.queue, h.role_eq hx hb⟩
  · rw [State.V, State.P, State.S, hbase.params]; rfl
  · rw [State.S, hbase.params]; rfl
  · clear hbase
    induction h with
    | trans h _ ih ih' => exact (ih' (by rw [h.base.state]; exact hb)).trans (ih hb)
    | closeVisit s e => exact closeVisit_spares s e
    | finishTest s j r _ hc => exact absurd hc (by simp [hx, hb])
    | _ => rfl

theorem role_testing {e : EngineState} {j : TestJob} (h : role e = role (.testing j)) :
    ∃ j', e = .testing j' ∧ j'.index = j.index ∧ j'.before = j.before := by
  cases e <;> simp_all [role]

/-- A spare is given a state that is neither IN_USE nor TESTING, its test being over and no entry naming it. -/
theorem poolLaw_setSpare_idle (h : PoolLaw s) {i : Nat} {y : SpareState} (hi : i ∉ namedSpares s.V s.map)
    (hy : y = .free ∨ y = .bad) (he : ∀ k, Tests s.engine k → k = i) : PoolLaw ((s.setSpare i y).setEngine .idle) := by
  obtain ⟨hlen, hused, htesting⟩ := h
  refine ⟨(List.length_set ..).trans hlen, fun k (hk : k < s.S) => ?_, fun k (hk : k < s.S) => ?_⟩
  · by_cases hik : i = k
    · subst hik
      change (s.spares.set i y)[i]? = some .inUse ↔ i ∈ namedSpares s.V s.map
      rw [List.getElem?_set_self (by omega)]
      rcases hy with rfl | rfl <;> simp [hi]
    · change (s.spares.set i y)[k]? = some .inUse ↔ _
      rw [List.getElem?_set_ne hik]
      exact hused k hk
  · by_cases hik : i = k
    · subst hik
      change (s.spares.set i y)[i]? = some .testing ↔ False
      rw [List.getElem?_set_self (by omega)]
      rcases hy with rfl | rfl <;> simp
    · change (s.spares.set i y)[k]? = some .testing ↔ False
      rw [List.getElem?_set_ne hik, htesting k hk]
      exact iff_false_intro fun h => hik (he k h).symm

/-- A spare under test is named by no entry. -/
theorem not_named_of_testing (hpool : PoolLaw s) (hengine : EngineLaw s) {j : TestJob} (h : s.engine = .testing j) :
    j.index < s.S ∧ (j.before = .free ∨ j.before = .bad) ∧ j.index ∉ namedSpares s.V s.map := by
  obtain ⟨-, hused, htesting⟩ := hpool
  rw [EngineLaw, h] at hengine
  obtain ⟨hlt, hbefore, -⟩ := hengine
  refine ⟨hlt, hbefore, fun hmem => ?_⟩
  have htest := (htesting j.index hlt).mpr (by rw [h])
  rw [(hused j.index hlt).mpr hmem] at htest
  cases htest

theorem finishTest_core (hs : RepairCore s) {j : TestJob} (h : role s.engine = role (.testing j)) (r : TestResult) :
    RepairCore (s.finishTest j r) := by
  obtain ⟨hmap, hpool, hqueue, -⟩ := id hs
  obtain ⟨j', he, hindex, hbefore⟩ := role_testing h
  obtain ⟨hlt, hold, hnot⟩ := not_named_of_testing hs.2.1 hs.2.2.2 he
  refine ⟨hmap, ?_, hqueue, trivial⟩
  refine poolLaw_setSpare_idle hpool (hindex ▸ hnot) ?_ fun k hk => ?_
  · cases r with
    | good => exact .inl rfl
    | bad => exact .inr rfl
    | timeout => exact hbefore ▸ hold
    | abandoned => exact hbefore ▸ hold
  · rw [he] at hk
    exact hk.symm.trans hindex

theorem closeVisit_V (s : State) (e : VisitEnd) : (s.closeVisit e).V = s.V :=
  congrArg (fun m => m.params.memRegions - m.params.spareCount) (closeVisit_mgmt s e)

theorem closeVisit_S (s : State) (e : VisitEnd) : (s.closeVisit e).S = s.S :=
  congrArg (fun m => m.params.spareCount) (closeVisit_mgmt s e)

theorem sameRepair_closeVisit (s : State) (e : VisitEnd) : SameRepair s (s.closeVisit e) :=
  ⟨closeVisit_V s e, closeVisit_S s e, (closeVisit_base s e).map, closeVisit_spares s e, (closeVisit_base s e).queue,
    by rw [closeVisit_engine]⟩

theorem repairCore_of_flow (hs : RepairCore s) (h : Flow x s t) : RepairCore t := by
  induction h with
  | trans _ _ ih ih' => exact ih' (ih hs)
  | engine s e h => exact repairCore_congr (s := s) ⟨rfl, rfl, rfl, rfl, rfl, h⟩ hs
  | finishTest s j r h => exact finishTest_core hs h r
  | closeVisit s e => exact repairCore_congr (sameRepair_closeVisit s e) hs
  | mgmt s m _ hp =>
    refine repairCore_congr (s := s) ⟨?_, ?_, rfl, rfl, rfl, rfl⟩ hs
    · rw [State.V, State.P, State.S, State.setMgmt_mgmt, hp]; rfl
    · rw [State.S, State.setMgmt_mgmt, hp]; rfl
  | _ => exact hs

/-- The engine is IDLE or tests a spare. -/
def Rests (e : EngineState) : Prop := match e with | .idle => True | .testing _ => True | _ => False

theorem standbyLaw_iff : StandbyLaw s ↔
    (s.bridge.state = .standby → s.queue = [] ∧ s.inbox = [] ∧ s.ops = [] ∧ s.patrol.visit = none ∧ Rests s.engine) := Iff.rfl

theorem rests_congr {e e' : EngineState} (h : role e = role e') (he : Rests e) : Rests e' := by
  cases e <;> cases e' <;> trivial

theorem standbyLaw_of_flow (hx : x.stirs → s.bridge.state ≠ .standby) (hs : StandbyLaw s) (h : Flow x s t) : StandbyLaw t := by
  induction h with
  | trans h _ ih ih' => exact ih' (fun hst => by rw [h.base.state]; exact hx hst) (ih hx hs)
  | ops s l h =>
    intro hb
    obtain ⟨hq, hi, ho, hv, he⟩ := hs hb
    refine ⟨hq, hi, ?_, hv, he⟩
    by_contra hl
    exact (h hl).elim (fun h => h ho) fun h => hx h hb
  | hand s y h => exact fun hb => absurd hb (hx h)
  | patrol s p _ _ h =>
    intro hb
    obtain ⟨hq, hi, ho, hv, he⟩ := hs hb
    refine ⟨hq, hi, ho, ?_, he⟩
    by_contra hp
    exact (h hp).elim (fun h => h hv) fun h => hx h hb
  | closeVisit s e h => exact fun hb => absurd (by rwa [closeVisit_bridge] at hb) (hx h)
  | engine s e h =>
    intro hb
    obtain ⟨hq, hi, ho, hv, he⟩ := hs hb
    exact ⟨hq, hi, ho, hv, rests_congr h.symm he⟩
  | finishTest s j r =>
    intro hb
    obtain ⟨hq, hi, ho, hv, -⟩ := hs hb
    exact ⟨hq, hi, ho, hv, trivial⟩
  | bridge s b hb => exact fun h => hs (hb ▸ h)
  | _ => exact hs

end Sys2Proof.Proofs
end

section
/-! Every command keeps the laws of map, pool, queue and engine. -/

-- Fewer threads at once: each takes a part of the memory that a check of the whole text may use.
set_option Elab.async false

namespace Sys2Proof.Proofs

open Sys2Proof Sys2Proof.Machine

variable {c : Instr} {x : Scope} {s t : State}

/-! ### The commands that take no spare and no job -/

theorem tests_halt (e : EngineState) (i : Nat) : Tests e.halt i ↔ Tests e i := by
  cases e <;> exact Iff.rfl

theorem engineFits_halt {S : Nat} {m : List MapEntry} {e : EngineState} (h : EngineFits S m e) : EngineFits S m e.halt := by
  cases e with
  | copying j => trivial
  | suspended j => trivial
  | _ => exact h

theorem repairCore_halt (hs : RepairCore s) : RepairCore (s.setEngine s.engine.halt) := by
  obtain ⟨hmap, hpool, hqueue, hengine⟩ := hs
  obtain ⟨hlen, hused, htesting⟩ := poolLaw_iff.mp hpool
  exact ⟨hmap, poolLaw_iff.mpr ⟨hlen, hused, fun i hi => (htesting i hi).trans (tests_halt _ i).symm⟩, hqueue,
    engineFits_halt hengine⟩

/-- What an accepted submission finds (R40). -/
theorem submission_accepted_iff {r : Nat} : s.submission r = .accepted ↔
    (∀ q ∈ s.queue, q.region ≠ r) ∧ (∀ e ∈ s.map, e.isCopying = true → e.region ≠ r) ∧ s.queue.length < 8 := by
  rw [submission_eq]
  split
  · next h =>
    refine iff_of_false (by simp) ?_
    rintro ⟨hq, hm, -⟩
    rcases h with ⟨q, hmem, heq⟩ | ⟨e, hmem, heq, hcopy⟩
    · exact hq q hmem heq
    · exact hm e hmem hcopy heq
  · next h =>
    simp only [not_or, not_exists, not_and] at h
    split
    · next hfull => exact iff_of_false (by simp) fun hlt => by omega
    · next hroom => exact iff_of_true rfl ⟨h.1, fun e he hcopy hr => h.2 e he hr hcopy, by omega⟩

theorem repairCore_submit (hs : RepairCore s) {r : Request} (hr : Asks s r) (ha : s.submission r.region = .accepted) :
    RepairCore (s.setQueue (s.queue ++ [r])) := by
  obtain ⟨hmap, hpool, ⟨hlen, hnodup, hall⟩, hengine⟩ := hs
  obtain ⟨hqueue, hcopy, hroom⟩ := submission_accepted_iff.mp ha
  refine ⟨hmap, hpool, ⟨?_, ?_, ?_⟩, hengine⟩
  · rw [State.setQueue_queue, List.length_append, List.length_singleton]
    omega
  · rw [State.setQueue_queue, List.map_append, List.nodup_append]
    refine ⟨hnodup, by simp, ?_⟩
    rintro _ hq _ hr' rfl
    obtain ⟨q, hq, hregion⟩ := List.mem_map.mp hq
    simp only [List.map_cons, List.map_nil, List.mem_singleton] at hr'
    exact hqueue q hq (hregion.trans hr')
  · intro q hq
    rcases List.mem_append.mp hq with hq | hq
    · exact hall q hq
    · rw [List.mem_singleton.mp hq]
      rcases hr with ⟨hkind, hV, hnone⟩ | ⟨hkind, e, he, hregion⟩
      · rw [findEntry_eq_none_iff] at hnone
        refine ⟨hV, hcopy, iff_of_false (by rw [hkind]; decide) ?_⟩
        rintro ⟨e, he, hregion⟩
        exact hnone e he hregion
      · refine ⟨?_, hcopy, iff_of_true hkind ⟨e, he, hregion⟩⟩
        obtain ⟨-, hlaw, -⟩ := hmap
        exact hregion ▸ (hlaw e he).1

theorem rests_of_standby (h : StandbyLaw s) (hb : s.bridge.state = .standby) : Rests s.engine := by
  obtain ⟨-, -, -, -, he⟩ := h hb
  exact he

theorem geometry_repairLaw (hs : RepairLaw s) (i : Byte) (v : Nat) (hb : s.bridge.state = .standby) (hm : s.map = []) :
    RepairLaw (s.setParam i v).geometryChange := by
  obtain ⟨-, hstandby⟩ := repairLaw_iff.mp hs
  obtain ⟨hqueue, -, hops, hvisit, hrests⟩ := standbyLaw_iff.mp hstandby hb
  have hidle : ((s.setParam i v).geometryChange).engine = .idle := by
    change ((s.setParam i v).endTestSilently).engine = .idle
    unfold State.endTestSilently
    cases he : s.engine with
    | idle => simp [State.setParam, he]
    | testing t => simp [State.setParam, he]
    | _ => rw [he] at hrests; exact hrests.elim
  have hmap' : ((s.setParam i v).geometryChange).map = [] := (endTestSilently_map _).trans hm
  have hqueue' : ((s.setParam i v).geometryChange).queue = [] := by
    refine Eq.trans ?_ hqueue
    change ((s.setParam i v).endTestSilently).queue = _
    unfold State.endTestSilently
    split <;> rfl
  have hspares : ((s.setParam i v).geometryChange).spares = List.replicate ((s.setParam i v).geometryChange).S .free := rfl
  refine repairLaw_iff.mpr ⟨⟨?_, ?_, ?_, ?_⟩, ?_⟩
  · simp [MapLaw, hmap', namedSpares]
  · rw [poolLaw_iff, hidle, hmap', hspares]
    refine ⟨List.length_replicate, fun k hk => ?_, fun k hk => ?_⟩
    · simp [hk, namedSpares]
    · simp [hk, Tests]
  · simp [QueueLaw, hqueue']
  · rw [engineLaw_iff, hidle]
    trivial
  · refine standbyLaw_iff.mpr fun _ => ⟨hqueue', rfl, ?_, ?_, by rw [hidle]; trivial⟩
    · refine Eq.trans ?_ hops
      change ((s.setParam i v).endTestSilently).ops = _
      unfold State.endTestSilently
      split <;> rfl
    · refine Eq.trans ?_ hvisit
      change ((s.setParam i v).endTestSilently).patrol.visit = _
      unfold State.endTestSilently
      split <;> rfl

theorem repairLaw_setParams (hs : RepairLaw s) {p : Params} (hP : p.memRegions = s.mgmt.params.memRegions)
    (hS : p.spareCount = s.mgmt.params.spareCount) : RepairLaw (s.setMgmt { s.mgmt with params := p }) := by
  obtain ⟨hcore, hstandby⟩ := repairLaw_iff.mp hs
  refine repairLaw_iff.mpr ⟨repairCore_congr (s := s) ⟨?_, hS, rfl, rfl, rfl, rfl⟩ hcore, hstandby⟩
  rw [State.V, State.P, State.S, State.setMgmt_mgmt, hP, hS]
  rfl

/-- A run of a command that takes no spare and no job, where only a bridge out of STANDBY stirs. -/
theorem repairLaw_of_run (h : Run c x s t) (hc : ¬ Repairs c) (hsoft : c ≠ .softReset)
    (hx : x.stirs → s.bridge.state ≠ .standby) (hs : RepairLaw s) :
    RepairLaw t ∧ (x.stirs → t.bridge.state ≠ .standby) := by
  induction h with
  | trans _ _ ih ih' =>
    obtain ⟨hs', hx'⟩ := ih hx hs
    exact ih' hx' hs'
  | flow h =>
    obtain ⟨hcore, hstandby⟩ := repairLaw_iff.mp hs
    exact ⟨repairLaw_iff.mpr ⟨repairCore_of_flow hcore h, standbyLaw_of_flow hx hstandby h⟩,
      fun hst => by rw [h.base.state]; exact hx hst⟩
  | map s m h => exact absurd h hc
  | spares s l h => exact absurd h hc
  | queue s l h => exact absurd h hc
  | engine s e h => exact absurd h hc
  | halt s hb => exact ⟨repairLaw_of_core (repairCore_halt (repairLaw_iff.mp hs).1) (by simp [hb]), hx⟩
  | submit s r h hr ha => exact ⟨repairLaw_of_core (repairCore_submit (repairLaw_iff.mp hs).1 hr ha) (hx h), hx⟩
  | inbox s l _ hl =>
    obtain ⟨hcore, hstandby⟩ := repairLaw_iff.mp hs
    refine ⟨repairLaw_iff.mpr ⟨hcore, standbyLaw_iff.mpr fun hb => ?_⟩, hx⟩
    obtain ⟨hqueue, hinbox, hrest⟩ := standbyLaw_iff.mp hstandby hb
    rw [hinbox] at hl
    exact ⟨hqueue, List.subset_nil.mp hl, hrest⟩
  | bridge s b hb =>
    obtain ⟨hcore, hstandby⟩ := repairLaw_iff.mp hs
    exact ⟨repairLaw_iff.mpr ⟨hcore, fun h => hstandby (hb ▸ h)⟩, fun hst => hb ▸ hx hst⟩
  | change s b e _ hn =>
    obtain ⟨hcore, -⟩ := repairLaw_iff.mp hs
    exact ⟨repairLaw_of_core hcore hn, fun _ => hn⟩
  | param s p _ _ hP hS => exact ⟨repairLaw_setParams hs hP hS, hx⟩
  | alertLevel s p _ _ hP hS => exact ⟨repairLaw_setParams hs hP hS, hx⟩
  | geometry s i v _ _ _ hb hm => exact ⟨geometry_repairLaw hs i v hb hm, fun hst => absurd hb (hx hst)⟩
  | arranged key h ih => exact ih hx hs
  | softReset s h => exact absurd h hsoft
  | _ => exact ⟨hs, hx⟩

/-- In a state that has the laws, only a bridge out of STANDBY stirs. -/
def Scope.outside (s : State) : Scope := ⟨fun _ => True, s.bridge.state ≠ .standby, True⟩

theorem fits_outside (h : StandbyLaw s) : Fits (Scope.outside s) s := by
  refine ⟨fun _ _ => trivial, trivial, ?_⟩
  rintro (hb | hops | hvisit)
  · exact hb
  · exact fun hb => hops (h hb).2.2.1
  · exact fun hb => hvisit (h hb).2.2.2.1

theorem copying_outside (h : StandbyLaw s) {j : CopyJob} (hj : s.engine = .copying j) : s.bridge.state ≠ .standby := by
  intro hb
  have hrests := rests_of_standby h hb
  rw [hj] at hrests
  exact hrests

theorem inbox_outside (h : StandbyLaw s) (hi : s.inbox ≠ []) : s.bridge.state ≠ .standby := fun hb => hi (h hb).2.1

/-! ### SOFT_RESET (R142) -/

theorem softReset_fields (s : State) : s.softReset.spares = (s.softResetEngine).spares ∧ s.softReset.engine = .idle ∧
    s.softReset.queue = [] ∧ s.softReset.inbox = [] ∧ s.softReset.ops = [] ∧ s.softReset.patrol.visit = none := by
  simp only [State.softReset, softResetDiag_eq, softResetEngine_eq]
  exact ⟨rfl, rfl, rfl, rfl, rfl, rfl⟩

theorem softReset_pool (hs : RepairCore s) : PoolLaw (s.softReset) := by
  obtain ⟨-, hpool, -, hengine⟩ := hs
  obtain ⟨hspares, hidle, -⟩ := softReset_fields s
  have hS : s.softReset.S = s.S := congrArg Params.spareCount (softReset_params s)
  have hV : s.softReset.V = s.V := congrArg (fun p => p.memRegions - p.spareCount) (softReset_params s)
  rw [poolLaw_iff, hspares, hidle, hS, hV, softReset_map]
  rw [softResetEngine_eq]
  cases he : s.engine with
  | testing j =>
    obtain ⟨-, hold, hnot⟩ := not_named_of_testing hpool hengine he
    exact poolLaw_setSpare_idle hpool hnot hold fun k hk => by rw [he] at hk; exact hk.symm
  | _ =>
    obtain ⟨hlen, hused, htesting⟩ := poolLaw_iff.mp hpool
    exact ⟨hlen, hused, fun i hi => (htesting i hi).trans (he ▸ Iff.rfl : Tests s.engine i ↔ False)⟩

theorem softReset_repairLaw (hs : RepairLaw s) : RepairLaw s.softReset := by
  obtain ⟨hcore, -⟩ := repairLaw_iff.mp hs
  obtain ⟨-, hidle, hqueue, hinbox, hops, hvisit⟩ := softReset_fields s
  have hS : s.softReset.S = s.S := congrArg Params.spareCount (softReset_params s)
  have hV : s.softReset.V = s.V := congrArg (fun p => p.memRegions - p.spareCount) (softReset_params s)
  refine repairLaw_iff.mpr ⟨⟨?_, softReset_pool hcore, ?_, ?_⟩, ?_⟩
  · rw [hV, hS, softReset_map]
    exact hcore.1
  · simp [QueueLaw, hqueue]
  · rw [engineLaw_iff, hidle]
    trivial
  · exact standbyLaw_iff.mpr fun _ => ⟨hqueue, hinbox, hops, hvisit, by rw [hidle]; trivial⟩

end Sys2Proof.Proofs
end

section
/-! The commands that change the map or take a spare or a job, and that they keep the laws of map, pool, queue and engine. -/

-- Fewer threads at once: each takes a part of the memory that a check of the whole text may use.
set_option Elab.async false

namespace Sys2Proof.Proofs

open Sys2Proof Sys2Proof.Machine

variable {c : Instr} {x : Scope} {s t : State}

/-! ### What the commands come to -/

/-- A step that begins sets the job; what its hold request does leaves map, pool, queue and job. -/
theorem beginStep_same (hb : s.bridge.state ≠ .contain) (j : CopyJob) : SameRepair (s.setEngine (.copying j)) (s.beginStep j) := by
  have hset : SameRepair (s.setEngine (.copying j)) (s.setEngine (.copying { j with phase := .waitHold })) :=
    ⟨rfl, rfl, rfl, rfl, rfl, rfl⟩
  have hhold := (Flow.refl (s.setEngine (.copying { j with phase := .waitHold }))).requestHold Scope.quiet_coded
    (fun _ => trivial) (.host (lineOf j.region j.cursor)) .engine
  exact hset.trans (hhold.sameRepair not_false hb)

theorem release_same (hb : s.bridge.state ≠ .contain) (o : Owner) : SameRepair s (s.release o) :=
  ((Flow.refl s).release Scope.quiet_coded (fun _ => trivial) o).sameRepair not_false hb

theorem release_state (s : State) (o : Owner) : (s.release o).bridge.state = s.bridge.state :=
  ((Flow.refl (x := Scope.quiet) s).release Scope.quiet_coded (fun _ => trivial) o).base.state

theorem setEngine_same (h : SameRepair s t) (e : EngineState) : SameRepair (s.setEngine e) (t.setEngine e) :=
  ⟨h.V, h.S, h.map, h.spares, h.queue, rfl⟩

theorem spareAllocated_same (s : State) : SameRepair s s.spareAllocated ∧
    (s.inService = true → s.spareAllocated.inService = true) := by
  unfold State.spareAllocated
  split
  · exact ⟨⟨rfl, rfl, rfl, rfl, rfl, rfl⟩, fun _ => rfl⟩
  · exact ⟨.refl s, id⟩

/-- What a job start comes to, for map, pool, queue, job and inbox (R43 to R47). -/
inductive Started (s : State) : State → Prop
  | none : Started s s
  | resumed (e : MapEntry) (k : JobKind) (q n : Nat) {t : State} (he : e ∈ s.map) (hstate : e.state = .copying k q n)
      (h : SameRepair (s.setEngine (.copying (newJob e.region k e.spare q n))) t) : Started s t
  | dropped (r : Request) (rest : List Request) (hq : s.queue = r :: rest)
      (hodd : (r.kind = .retire ∧ ∃ e ∈ s.map, e.region = r.region) ∨ (r.kind = .replace ∧ findEntry s.map r.region = none)) :
      Started s (s.setQueue rest)
  | refused (r : Request) (rest : List Request) {t : State} (hq : s.queue = r :: rest) (h : SameRepair (s.setQueue rest) t)
      (hi : Handed.stranded (r.source s.V s.map) ∈ t.inbox) : Started s t
  | retired (r : Request) (rest : List Request) (i : Nat) {t : State} (hq : s.queue = r :: rest) (hk : r.kind = .retire)
      (hnone : findEntry s.map r.region = none) (hi : s.freeSpare? = some i) (hcopy : ∀ e ∈ s.map, e.isCopying = false)
      (h : SameRepair
        ((((s.setQueue rest).setSpare i .inUse).setMap (insertEntry (retireEntry r.region i r.origin) s.map)).setEngine
          (.copying (newJob r.region .retire i r.region 0))) t) : Started s t
  | replaced (r : Request) (rest : List Request) (i : Nat) (e : MapEntry) {t : State} (hq : s.queue = r :: rest)
      (hk : r.kind = .replace) (he : findEntry s.map r.region = some e) (hi : s.freeSpare? = some i)
      (hcopy : ∀ e ∈ s.map, e.isCopying = false)
      (h : SameRepair
        ((((s.setQueue rest).setSpare i .inUse).setMap (updateEntry s.map r.region (convertEntry s.V i))).setEngine
          (.copying (newJob r.region .replace i (s.V + e.spare) 0))) t) : Started s t

theorem refuseJob_same (s : State) (r : Request) (q : Nat) :
    SameRepair s (s.refuseJob r q) ∧ Handed.stranded q ∈ (s.refuseJob r q).inbox := by
  unfold State.refuseJob
  dsimp only
  constructor
  · split <;> exact ⟨rfl, rfl, rfl, rfl, rfl, rfl⟩
  · exact List.mem_append_right _ (by simp)

/-- An allocation's job, with what it logs and the bridge state it may restore. -/
theorem allocated_same (hs : s.inService = true) (e : Event) (j : CopyJob) :
    SameRepair (s.setEngine (.copying j)) (((s.logEvent e).spareAllocated).beginStep j) := by
  obtain ⟨hsame, hservice⟩ := spareAllocated_same (s.logEvent e)
  have hlog : SameRepair s (s.logEvent e) := ⟨rfl, rfl, rfl, rfl, rfl, rfl⟩
  have hb := (State.inService_of (inService_iff.mp (hservice hs))).1
  exact (setEngine_same (hlog.trans hsame) _).trans (beginStep_same hb j)

theorem startJob_started (hs : s.inService = true) : Started s s.startJob := by
  have hb : s.bridge.state ≠ .contain := (State.inService_of (inService_iff.mp hs)).1
  unfold State.startJob
  split
  · next e he =>
    unfold State.resumeEntry
    split
    · exact .none
    · next k q n hstate =>
      have hsame : SameRepair (s.setEngine (.copying (newJob e.region k e.spare q n)))
          ((s.logEvent (.jobStarted e.region k e.spare)).setEngine (.copying (newJob e.region k e.spare q n))) :=
        ⟨rfl, rfl, rfl, rfl, rfl, rfl⟩
      exact .resumed e k q n (List.mem_of_find?_eq_some he) hstate (hsame.trans (beginStep_same (s := s.logEvent _) hb _))
  next hnocopy =>
  have hcopy := copyingEntry_eq_none_iff.mp hnocopy
  split
  · exact .none
  next r rest hq =>
  split
  · next hk =>
    unfold State.startRetire
    split
    · next e he =>
      exact .dropped r rest hq (.inl ⟨hk, e, List.mem_of_find?_eq_some he, by simpa using List.find?_some he⟩)
    · next hnone =>
      split
      · next i hi =>
        exact .retired r rest i hq hk hnone hi hcopy (allocated_same (s := ((s.setQueue rest).setSpare i .inUse).setMap _) hs _ _)
      · obtain ⟨hsame, hmem⟩ := refuseJob_same (s.setQueue rest) r r.region
        refine .refused r rest hq hsame ?_
        rwa [Request.source, show findEntry s.map r.region = none from hnone]
  · next hk =>
    unfold State.startReplace
    split
    · next hnone => exact .dropped r rest hq (.inr ⟨hk, hnone⟩)
    · next e he =>
      split
      · next i hi =>
        exact .replaced r rest i e hq hk he hi hcopy (allocated_same (s := ((s.setQueue rest).setSpare i .inUse).setMap _) hs _ _)
      · obtain ⟨hsame, hmem⟩ := refuseJob_same (s.setQueue rest) r ((s.setQueue rest).V + e.spare)
        refine .refused r rest hq hsame ?_
        rwa [Request.source, show findEntry s.map r.region = some e from he]

/-- The acknowledged spare write of a line below 63 moves the cursor of entry and job (R25, R50). -/
theorem copyAck_same (hb : s.bridge.state ≠ .contain) {j : CopyJob} (h : j.cursor < 63) :
    SameRepair ((s.setMap (updateEntry s.map j.region (advanceEntry j.poison))).setEngine
      (.copying { j with cursor := j.cursor + 1, timeouts := 0, attempts := 0, poison := false })) (s.copyAck j) := by
  unfold State.copyAck
  rw [if_pos h]
  have hrelease := release_same (s := s.setMap (updateEntry s.map j.region (advanceEntry j.poison))) hb .engine
  exact (setEngine_same hrelease _).trans (beginStep_same (by rw [release_state]; exact hb) _)

/-- The acknowledged spare write of line 63 completes entry and job (R26, R53). -/
theorem copyDone_same (hb : s.bridge.state ≠ .contain) {j : CopyJob} (h : ¬ j.cursor < 63) :
    SameRepair ((s.completeMap j).setEngine .idle) (s.copyAck j) ∧ Handed.removal j.source ∈ (s.copyAck j).inbox := by
  have hb' : (s.completeMap j).bridge.state ≠ .contain := by
    unfold State.completeMap
    dsimp only
    split <;> exact hb
  unfold State.copyAck
  rw [if_neg h]
  have hrelease := release_same hb' .engine
  unfold State.completeJob
  dsimp only
  generalize (s.completeMap j).release .engine = u at hrelease
  exact ⟨(setEngine_same hrelease .idle).trans ⟨rfl, rfl, rfl, rfl, rfl, rfl⟩, List.mem_append_right _ (by simp)⟩

/-! ### What they do to the laws -/

theorem getElem?_of_freeSpare {i : Nat} (h : s.freeSpare? = some i) : s.spares[i]? = some .free := by
  obtain ⟨hi, hfree, -⟩ := List.findIdx?_eq_some_iff_getElem.mp h
  rw [List.getElem?_eq_getElem hi]
  simpa using hfree

theorem not_named_of_free (h : PoolLaw s) {i : Nat} (hi : s.spares[i]? = some .free) :
    i < s.S ∧ i ∉ namedSpares s.V s.map := by
  obtain ⟨hlen, hused, -⟩ := h
  have hlt : i < s.S := hlen ▸ (List.getElem?_eq_some_iff.mp hi).1
  refine ⟨hlt, fun hmem => ?_⟩
  rw [(hused i hlt).mpr hmem] at hi
  cases hi

/-- A FREE spare is taken, and the map names it beside those it named. -/
theorem poolLaw_take (h : PoolLaw s) {i : Nat} (hi : s.spares[i]? = some .free) {m : List MapEntry}
    (hm : ∀ k, k ∈ namedSpares s.V m ↔ k = i ∨ k ∈ namedSpares s.V s.map) {e : EngineState}
    (he : ∀ k, Tests e k ↔ Tests s.engine k) : PoolLaw (((s.setSpare i .inUse).setMap m).setEngine e) := by
  obtain ⟨hlen, hused, htesting⟩ := poolLaw_iff.mp h
  obtain ⟨hlt, -⟩ := not_named_of_free h hi
  have hspare (k : Nat) : (s.spares.set i .inUse)[k]? = if k = i then some .inUse else s.spares[k]? := by
    by_cases hik : k = i
    · subst hik
      rw [List.getElem?_set_self (by omega), if_pos rfl]
    · rw [List.getElem?_set_ne (Ne.symm hik), if_neg hik]
  refine poolLaw_iff.mpr ⟨(List.length_set ..).trans hlen, fun k (hk : k < s.S) => ?_, fun k (hk : k < s.S) => ?_⟩
  · change (s.spares.set i .inUse)[k]? = some .inUse ↔ k ∈ namedSpares s.V m
    rw [hspare, hm, ← hused k hk]
    by_cases hik : k = i <;> simp [hik]
  · change (s.spares.set i .inUse)[k]? = some .testing ↔ Tests e k
    rw [hspare, he, ← htesting k hk]
    by_cases hik : k = i
    · subst hik
      simp [hi]
    · simp [hik]

theorem mem_names_insert {V : Nat} {m : List MapEntry} {e : MapEntry} (h : e.oldSpare? V = none) (k : Nat) :
    k ∈ namedSpares V (insertEntry e m) ↔ k = e.spare ∨ k ∈ namedSpares V m := by
  rw [mem_namedSpares_iff (insertEntry_perm e m), namesOf, h]
  simp

theorem mapLaw_insert {V S : Nat} {m : List MapEntry} {e : MapEntry} (h : MapLaw V S m) (hne : findEntry m e.region = none)
    (he : e.law V S) (hold : e.oldSpare? V = none) (hnot : e.spare ∉ namedSpares V m)
    (hcopy : m.countP MapEntry.isCopying + (if e.isCopying then 1 else 0) ≤ 1) : MapLaw V S (insertEntry e m) := by
  obtain ⟨hs, hlaw, hnames, -⟩ := h
  refine mapLaw_of_perm (insertEntry_perm e m) (ascending_insertEntry hs (findEntry_eq_none_iff.mp hne)) he hlaw ?_ hcopy
  rw [namesOf, hold]
  exact List.nodup_cons.mpr ⟨hnot, hnames⟩

/-- MAP_LOAD on a map that keeps its law (R28, R33). -/
theorem loadMap_repairLaw (hs : RepairLaw s) (hb : s.bridge.state = .standby) {r i : Nat} (hr : r < s.V)
    (hnone : findEntry s.map r = none) (hi : s.spares[i]? = some .free) : RepairLaw (s.loadMap r i) := by
  obtain ⟨⟨hmap, hpool, hqueue, hengine⟩, hstandby⟩ := repairLaw_iff.mp hs
  obtain ⟨hlt, hnot⟩ := not_named_of_free hpool hi
  have hempty : s.queue = [] := (hstandby hb).1
  refine repairLaw_iff.mpr ⟨⟨?_, ?_, ?_, ?_⟩, hstandby⟩
  · refine mapLaw_insert hmap hnone ⟨hr, hlt, Nat.zero_le _, Nat.zero_le _⟩ rfl hnot ?_
    exact hmap.2.2.2
  · exact poolLaw_take (e := s.engine) hpool hi (mem_names_insert rfl) fun _ => Iff.rfl
  · rw [QueueLaw, show (s.loadMap r i).queue = [] from hempty]
    simp
  · have hrests := rests_of_standby hstandby hb
    rw [engineLaw_iff] at hengine ⊢
    change EngineFits s.S (insertEntry (loadedEntry r i) s.map) s.engine
    cases he : s.engine with
    | testing t =>
      rw [he] at hengine
      obtain ⟨hindex, hbefore, hcopy⟩ := hengine
      refine ⟨hindex, hbefore, fun e he => ?_⟩
      rcases List.mem_cons.mp ((insertEntry_perm _ _).mem_iff.mp he) with rfl | he
      · rfl
      · exact hcopy e he
    | copying j => rw [he] at hrests; exact hrests.elim
    | suspended j => rw [he] at hrests; exact hrests.elim
    | _ => trivial

/-- SPARE_MARK_BAD of a FREE spare (R36). -/
theorem markBad_repairLaw (hs : RepairLaw s) {i : Nat} (hi : s.spares[i]? = some .free) : RepairLaw (s.setSpare i .bad) := by
  obtain ⟨⟨hmap, hpool, hqueue, hengine⟩, hstandby⟩ := repairLaw_iff.mp hs
  obtain ⟨hlt, -⟩ := not_named_of_free hpool hi
  obtain ⟨hlen, hused, htesting⟩ := hpool
  have hkeep (y : SpareState) (hfree : y ≠ .free) (hbad : y ≠ .bad) (k : Nat) :
      (s.spares.set i .bad)[k]? = some y ↔ s.spares[k]? = some y := by
    by_cases hik : i = k
    · subst hik
      rw [List.getElem?_set_self (by omega), hi]
      simp [Ne.symm hfree, Ne.symm hbad]
    · rw [List.getElem?_set_ne hik]
  refine repairLaw_iff.mpr ⟨⟨hmap, ⟨(List.length_set ..).trans hlen, fun k hk => ?_, fun k hk => ?_⟩, hqueue, hengine⟩, hstandby⟩
  · exact (hkeep _ (by decide) (by decide) k).trans (hused k hk)
  · exact (hkeep _ (by decide) (by decide) k).trans (htesting k hk)

/-- SPARE_TEST's taking of a FREE or BAD spare (R55, R56). -/
theorem startTest_repairLaw (hs : RepairLaw s) (hidle : s.engine = .idle) {i : Nat} {before : SpareState}
    (hi : s.spares[i]? = some before) (hbefore : before = .free ∨ before = .bad) (hcopy : ∀ e ∈ s.map, e.isCopying = false) :
    RepairLaw (s.startTest i before) := by
  obtain ⟨⟨hmap, ⟨hlen, hused, htesting⟩, hqueue, -⟩, hstandby⟩ := repairLaw_iff.mp hs
  have hlt : i < s.S := hlen ▸ (List.getElem?_eq_some_iff.mp hi).1
  let u := (s.setSpare i .testing).setEngine (.testing ⟨i, 0, .waitHold, 0, before⟩)
  have hspare (k : Nat) : (s.spares.set i .testing)[k]? = if k = i then some .testing else s.spares[k]? := by
    by_cases hik : k = i
    · subst hik
      rw [List.getElem?_set_self (by omega), if_pos rfl]
    · rw [List.getElem?_set_ne (Ne.symm hik), if_neg hik]
  have hcore : RepairCore u := by
    refine ⟨hmap, poolLaw_iff.mpr ⟨(List.length_set ..).trans hlen, fun k (hk : k < s.S) => ?_, fun k (hk : k < s.S) => ?_⟩,
      hqueue, hlt, hbefore, hcopy⟩
    · change (s.spares.set i .testing)[k]? = some .inUse ↔ k ∈ namedSpares s.V s.map
      rw [hspare, ← hused k hk]
      by_cases hik : k = i
      · subst hik
        rcases hbefore with rfl | rfl <;> simp [hi]
      · simp [hik]
    · change (s.spares.set i .testing)[k]? = some .testing ↔ i = k
      rw [hspare]
      by_cases hik : k = i
      · simp [hik]
      · rw [if_neg hik, htesting k hk, hidle]
        exact iff_of_false id (Ne.symm hik)
  have hlaw : StandbyLaw u := by
    refine standbyLaw_iff.mpr fun hb => ?_
    obtain ⟨hqueue, hinbox, hops, hvisit, -⟩ := standbyLaw_iff.mp hstandby hb
    exact ⟨hqueue, hinbox, hops, hvisit, trivial⟩
  have hfits := fits_outside hlaw
  have hflow : Flow (Scope.outside u) u (s.startTest i before) :=
    (Flow.refl u).requestHold hfits.coded hfits.stirs _ _
  exact repairLaw_iff.mpr ⟨repairCore_of_flow hcore hflow, standbyLaw_of_flow id hlaw hflow⟩

theorem poolLaw_setEngine (h : PoolLaw s) {e : EngineState} (he : ∀ k, Tests e k ↔ Tests s.engine k) :
    PoolLaw (s.setEngine e) := by
  obtain ⟨hlen, hused, htesting⟩ := poolLaw_iff.mp h
  exact poolLaw_iff.mpr ⟨hlen, hused, fun k hk => (htesting k hk).trans (he k).symm⟩

theorem queueLaw_tail {r : Request} {rest : List Request} (h : QueueLaw s) (hq : s.queue = r :: rest) :
    QueueLaw (s.setQueue rest) ∧ (∀ q ∈ rest, q.region ≠ r.region) ∧ r.region < s.V ∧
      (r.kind = .replace ↔ ∃ e ∈ s.map, e.region = r.region) := by
  obtain ⟨hlen, hnodup, hall⟩ := h
  rw [hq] at hlen hnodup hall
  rw [List.map_cons, List.nodup_cons] at hnodup
  obtain ⟨hnot, hnodup⟩ := hnodup
  obtain ⟨hV, -, hkind⟩ := hall r (by simp)
  refine ⟨⟨?_, hnodup, fun q hmem => hall q (List.mem_cons_of_mem r hmem)⟩, ?_, hV, hkind⟩
  · rw [State.setQueue_queue]
    rw [List.length_cons] at hlen
    omega
  · exact fun q hmem heq => hnot (List.mem_map.mpr ⟨q, hmem, heq⟩)

theorem count_copying_eq_zero {m : List MapEntry} (h : ∀ e ∈ m, e.isCopying = false) : m.countP MapEntry.isCopying = 0 :=
  List.countP_eq_zero.mpr fun e he => by simp [h e he]

theorem retired_core (hs : RepairCore s) (hidle : s.engine = .idle) {r : Request} {rest : List Request} {i : Nat}
    (hq : s.queue = r :: rest) (hnone : findEntry s.map r.region = none) (hi : s.freeSpare? = some i)
    (hcopy : ∀ e ∈ s.map, e.isCopying = false) :
    RepairCore ((((s.setQueue rest).setSpare i .inUse).setMap (insertEntry (retireEntry r.region i r.origin) s.map)).setEngine
      (.copying (newJob r.region .retire i r.region 0))) := by
  obtain ⟨hmap, hpool, hqueue, -⟩ := hs
  obtain ⟨⟨hlen, hnodup, hall⟩, hne, hV, -⟩ := queueLaw_tail hqueue hq
  have hfree := getElem?_of_freeSpare hi
  obtain ⟨hlt, hnot⟩ := not_named_of_free hpool hfree
  have hmem (e : MapEntry) : e ∈ insertEntry (retireEntry r.region i r.origin) s.map ↔
      e = retireEntry r.region i r.origin ∨ e ∈ s.map := by
    rw [(insertEntry_perm _ _).mem_iff, List.mem_cons]
  refine ⟨?_, ?_, ⟨hlen, hnodup, fun q hq => ?_⟩, ?_⟩
  · refine mapLaw_insert hmap hnone ⟨hV, hlt, Nat.zero_le _, rfl, Nat.zero_le _, Nat.le_refl _⟩ rfl hnot ?_
    rw [count_copying_eq_zero hcopy]
    exact Nat.le_refl 1
  · refine poolLaw_take (s := s.setQueue rest) hpool hfree (mem_names_insert rfl) fun k => ?_
    rw [State.setQueue_engine, hidle]
    exact Iff.rfl
  · obtain ⟨hqV, -, hkind⟩ := hall q hq
    have hqr := hne q hq
    refine ⟨hqV, fun e he hc => ?_, hkind.trans ?_⟩
    · rcases (hmem e).mp he with rfl | he
      · exact Ne.symm hqr
      · simp [hcopy e he] at hc
    · refine ⟨fun ⟨e, he, heq⟩ => ⟨e, (hmem e).mpr (.inr he), heq⟩, fun ⟨e, he, heq⟩ => ?_⟩
      rcases (hmem e).mp he with rfl | he
      · exact absurd heq.symm hqr
      · exact ⟨e, he, heq⟩
  · exact ⟨_, (hmem _).mpr (.inl rfl), rfl, rfl, rfl⟩

/-- The regions of a map, and which of them are COPYING, after a change of one entry. -/
theorem mem_split_iff {l l' : List MapEntry} {e y : MapEntry} : y ∈ l ++ e :: l' ↔ y = e ∨ y ∈ l ++ l' := by
  rw [(perm_split l l' e).mem_iff, List.mem_cons]

/-- A change of one entry that keeps its region leaves which regions have an entry. -/
theorem exists_region_split {l l' : List MapEntry} {e e' : MapEntry} (h : e'.region = e.region) (r : Nat) :
    (∃ y ∈ l ++ e :: l', y.region = r) ↔ ∃ y ∈ l ++ e' :: l', y.region = r := by
  simp only [mem_split_iff, or_and_right, exists_or, exists_eq_left, h]

theorem replaced_core (hs : RepairCore s) (hidle : s.engine = .idle) {r : Request} {rest : List Request} {i : Nat} {e : MapEntry}
    (hq : s.queue = r :: rest) (he : findEntry s.map r.region = some e) (hi : s.freeSpare? = some i)
    (hcopy : ∀ e ∈ s.map, e.isCopying = false) :
    RepairCore ((((s.setQueue rest).setSpare i .inUse).setMap (updateEntry s.map r.region (convertEntry s.V i))).setEngine
      (.copying (newJob r.region .replace i (s.V + e.spare) 0))) := by
  obtain ⟨hmap, hpool, hqueue, -⟩ := hs
  obtain ⟨⟨hlen, hnodup, hall⟩, hne, hV, -⟩ := queueLaw_tail hqueue hq
  have hfree := getElem?_of_freeSpare hi
  obtain ⟨hlt, hnot⟩ := not_named_of_free hpool hfree
  have hasc := ascending_updateEntry hmap.1 r.region (f := convertEntry s.V i) fun _ => rfl
  obtain ⟨l, l', hm, hregion, hother, hupdate⟩ := updateEntry_split hmap.1 he
  rw [hupdate] at hasc ⊢
  rw [hm] at hmap hcopy hnot
  obtain ⟨⟨-, hspare, hrep, -⟩, hlaws, hnames, -⟩ := mapLaw_beside hmap (perm_split l l' e)
  have hlive : e.oldSpare? s.V = none := by
    have hstate := isCopying_eq_false_iff.mp (hcopy e (by simp))
    simp [MapEntry.oldSpare?, hstate]
  have hrest : ∀ y ∈ l ++ l', y.isCopying = false := fun y hy => hcopy y (mem_split_iff.mpr (.inr hy))
  have hnamed (k : Nat) : k ∈ namedSpares s.V (l ++ e :: l') ↔ k = e.spare ∨ k ∈ namedSpares s.V (l ++ l') := by
    rw [mem_namedSpares_iff (perm_split l l' e), namesOf, hlive]
    simp
  have hnames' : namesOf s.V (convertEntry s.V i e) = [i, e.spare] := by simp [namesOf, MapEntry.oldSpare?, convertEntry]
  refine ⟨?_, ?_, ⟨hlen, hnodup, fun q hmem => ?_⟩, ?_⟩
  · refine mapLaw_of_perm (perm_split l l' _) hasc ⟨hregion ▸ hV, hlt, hrep, ?_⟩ hlaws ?_ ?_
    · change s.V ≤ s.V + e.spare ∧ s.V + e.spare < s.V + s.S ∧ 0 ≤ 63 ∧ 0 ≤ 0
      omega
    · change (namesOf s.V (convertEntry s.V i e) ++ namedSpares s.V (l ++ l')).Nodup
      rw [hnames']
      rw [namesOf, hlive] at hnames
      rw [hnamed] at hnot
      exact List.nodup_cons.mpr ⟨by simpa [not_or] using hnot, hnames⟩
    · rw [count_copying_eq_zero hrest]
      exact Nat.le_refl 1
  · refine poolLaw_take (s := s.setQueue rest) hpool hfree (fun k => ?_) fun k => ?_
    · change k ∈ namedSpares s.V (l ++ convertEntry s.V i e :: l') ↔ k = i ∨ k ∈ namedSpares s.V s.map
      rw [mem_namedSpares_iff (perm_split l l' _), hnames', hm, hnamed]
      simp [or_assoc]
    · rw [State.setQueue_engine, hidle]
      exact Iff.rfl
  · obtain ⟨hqV, -, hkind⟩ := hall q hmem
    refine ⟨hqV, fun y hy hc => ?_, hkind.trans ?_⟩
    · rcases mem_split_iff.mp hy with rfl | hy
      · exact fun heq => hne q hmem (heq.symm.trans hregion)
      · simp [hrest y hy] at hc
    · rw [State.setQueue_map, hm]
      exact exists_region_split (e := e) (e' := convertEntry s.V i e) rfl _
  · exact ⟨convertEntry s.V i e, mem_split_iff.mpr (.inl rfl), hregion, rfl, rfl⟩

theorem resumed_core (hs : RepairCore s) (hidle : s.engine = .idle) {e : MapEntry} {k : JobKind} {q n : Nat} (he : e ∈ s.map)
    (hstate : e.state = .copying k q n) : RepairCore (s.setEngine (.copying (newJob e.region k e.spare q n))) := by
  obtain ⟨hmap, hpool, hqueue, -⟩ := hs
  exact ⟨hmap, poolLaw_setEngine hpool fun k => by rw [hidle]; exact Iff.rfl, hqueue, e, he, rfl, rfl, hstate⟩

theorem started_core (hs : RepairCore s) (hidle : s.engine = .idle) (h : Started s t) : RepairCore t := by
  cases h with
  | none => exact hs
  | resumed e k q n he hstate h => exact repairCore_congr h (resumed_core hs hidle he hstate)
  | dropped r rest hq =>
    obtain ⟨hmap, hpool, hqueue, hengine⟩ := hs
    exact ⟨hmap, hpool, (queueLaw_tail hqueue hq).1, hengine⟩
  | refused r rest hq h =>
    obtain ⟨hmap, hpool, hqueue, hengine⟩ := hs
    exact repairCore_congr h ⟨hmap, hpool, (queueLaw_tail hqueue hq).1, hengine⟩
  | retired r rest i hq hk hnone hi hcopy h => exact repairCore_congr h (retired_core hs hidle hq hnone hi hcopy)
  | replaced r rest i e hq hk he hi hcopy h => exact repairCore_congr h (replaced_core hs hidle hq he hi hcopy)

end Sys2Proof.Proofs
end

section
/-! The acknowledged copy step (R25, R26, R50, R53), and the laws of map, pool, queue and engine for every command. -/

-- Fewer threads at once: each takes a part of the memory that a check of the whole text may use.
set_option Elab.async false

namespace Sys2Proof.Proofs

open Sys2Proof Sys2Proof.Machine

variable {c : Instr} {x : Scope} {s t : State}

/-! ### The acknowledged copy step -/

/-- The entry of the copy job, among the others. -/
theorem job_split (hs : RepairCore s) {j : CopyJob} (hj : s.engine = .copying j) :
    ∃ l e l', s.map = l ++ e :: l' ∧ e.region = j.region ∧ e.spare = j.spare ∧
      e.state = .copying j.kind j.source j.cursor ∧ ∀ f, updateEntry s.map j.region f = l ++ f e :: l' := by
  obtain ⟨hmap, -, -, hengine⟩ := hs
  rw [engineLaw_iff, hj] at hengine
  obtain ⟨e, he, hregion, hspare, hstate⟩ := hengine
  obtain ⟨l, l', hm, -, -, hupdate⟩ := updateEntry_split hmap.1 ((findEntry_eq_some_iff hmap.1).mpr ⟨he, hregion⟩)
  exact ⟨l, e, l', hm, hregion, hspare, hstate, hupdate⟩

theorem advanceEntry_of_copying {e : MapEntry} {k : JobKind} {q n : Nat} (h : e.state = .copying k q n) (b : Bool) :
    advanceEntry b e = { e with state := .copying k q (n + 1), poisoned := e.poisoned + b.toNat } := by
  simp [advanceEntry, h]

theorem completeEntry_of_copying {e : MapEntry} {k : JobKind} {q n : Nat} (h : e.state = .copying k q n) (b : Bool) :
    completeEntry b e =
      { e with
        state := .live
        poisoned := e.poisoned + b.toNat
        replacements := if k = .replace then min (e.replacements + 1) 255 else e.replacements } := by
  simp [completeEntry, h]

/-- A COPYING entry below its last line keeps its law with one more line copied. -/
theorem law_advance {V S : Nat} {e : MapEntry} {k : JobKind} {q n : Nat} (he : e.law V S) (h : e.state = .copying k q n)
    (hn : n < 63) (b : Bool) : (advanceEntry b e).law V S := by
  rw [advanceEntry_of_copying h]
  unfold MapEntry.law at he ⊢
  rw [h] at he
  have hb := b.toNat_le
  cases k with
  | retire =>
    obtain ⟨hregion, hspare, hrep, hq, -, hpoison⟩ := he
    exact ⟨hregion, hspare, hrep, hq, by omega, by dsimp only; omega⟩
  | replace =>
    obtain ⟨hregion, hspare, hrep, hq, hq', -, hpoison⟩ := he
    exact ⟨hregion, hspare, hrep, hq, hq', by omega, by dsimp only; omega⟩

theorem law_complete {V S : Nat} {e : MapEntry} {k : JobKind} {q n : Nat} (he : e.law V S) (h : e.state = .copying k q n)
    (b : Bool) : (completeEntry b e).law V S := by
  rw [completeEntry_of_copying h]
  unfold MapEntry.law at he ⊢
  rw [h] at he
  have hb := b.toNat_le
  cases k with
  | retire =>
    obtain ⟨hregion, hspare, hrep, -, hn, hpoison⟩ := he
    exact ⟨hregion, hspare, by simpa using hrep, by dsimp only; omega⟩
  | replace =>
    obtain ⟨hregion, hspare, hrep, -, -, hn, hpoison⟩ := he
    exact ⟨hregion, hspare, by simp, by dsimp only; omega⟩

/-- The queue's law when one entry is changed in place: which regions have an entry stays, and none becomes COPYING. -/
theorem queueLaw_split (h : QueueLaw s) {l l' : List MapEntry} {e e' : MapEntry} (hm : s.map = l ++ e :: l')
    (hregion : e'.region = e.region) (hcopy : e'.isCopying = true → e.isCopying = true) : QueueLaw (s.setMap (l ++ e' :: l')) := by
  obtain ⟨hlen, hnodup, hall⟩ := h
  refine ⟨hlen, hnodup, fun q hq => ?_⟩
  obtain ⟨hV, hcopies, hkind⟩ := hall q hq
  rw [hm] at hcopies hkind
  refine ⟨hV, fun y hy hc => ?_, hkind.trans (exists_region_split hregion _)⟩
  rcases mem_split_iff.mp hy with rfl | hy
  · rw [hregion]
    exact hcopies e (by simp) (hcopy hc)
  · exact hcopies y (mem_split_iff.mpr (.inr hy)) hc

theorem advanced_core (hs : RepairCore s) {j : CopyJob} (hj : s.engine = .copying j) (hn : j.cursor < 63) :
    RepairCore ((s.setMap (updateEntry s.map j.region (advanceEntry j.poison))).setEngine
      (.copying { j with cursor := j.cursor + 1, timeouts := 0, attempts := 0, poison := false })) := by
  obtain ⟨l, e, l', hm, hregion, hspare, hstate, hupdate⟩ := job_split hs hj
  obtain ⟨hmap, hpool, hqueue, -⟩ := hs
  have hasc := ascending_updateEntry hmap.1 j.region (f := advanceEntry j.poison) (by simp)
  rw [hupdate] at hasc ⊢
  have hadv := advanceEntry_of_copying hstate j.poison
  have hnames : namesOf s.V (advanceEntry j.poison e) = namesOf s.V e := by
    simp only [hadv, namesOf, MapEntry.oldSpare?, hstate]
    cases j.kind <;> rfl
  have hcopying : (advanceEntry j.poison e).isCopying = e.isCopying := by simp [hadv, MapEntry.isCopying, hstate]
  have hnamed (k : Nat) : k ∈ namedSpares s.V (l ++ advanceEntry j.poison e :: l') ↔ k ∈ namedSpares s.V s.map := by
    rw [hm, mem_namedSpares_iff (perm_split l l' _), mem_namedSpares_iff (perm_split l l' _), hnames]
  obtain ⟨hlen, hused, htesting⟩ := poolLaw_iff.mp hpool
  refine ⟨?_, poolLaw_iff.mpr ⟨hlen, fun k hk => (hused k hk).trans (hnamed k).symm, fun k hk => (htesting k hk).trans ?_⟩,
    queueLaw_split hqueue hm (by simp) (by rw [hcopying]; exact id), ?_⟩
  · rw [hm] at hmap
    obtain ⟨hlaw, hlaws, hnodup, hcount⟩ := mapLaw_beside hmap (perm_split l l' e)
    exact mapLaw_of_perm (perm_split l l' _) hasc (law_advance hlaw hstate hn _) hlaws (hnames ▸ hnodup) (hcopying ▸ hcount)
  · rw [hj]
    exact Iff.rfl
  · exact ⟨advanceEntry j.poison e, mem_split_iff.mpr (.inl rfl), by simpa using hregion, by simpa [hadv] using hspare,
      by simp [hadv]⟩

/-- The pool when an entry has become LIVE, the old spare of a REPLACE job being BAD. -/
theorem poolLaw_complete (hpool : PoolLaw s) (hnone : ∀ k, ¬ Tests s.engine k) {m : List MapEntry} {i : Nat}
    (hi : i < s.S) (hm : ∀ k, k ∈ namedSpares s.V m ↔ k ∈ namedSpares s.V s.map ∧ k ≠ i) :
    PoolLaw (((s.setMap m).setSpare i .bad).setEngine .idle) := by
  obtain ⟨hlen, hused, htesting⟩ := poolLaw_iff.mp hpool
  refine poolLaw_iff.mpr ⟨(List.length_set ..).trans hlen, fun k (hk : k < s.S) => ?_, fun k (hk : k < s.S) => ?_⟩
  · change (s.spares.set i .bad)[k]? = some .inUse ↔ k ∈ namedSpares s.V m
    rw [hm, ← hused k hk]
    by_cases hik : i = k
    · subst hik
      rw [List.getElem?_set_self (by omega)]
      simp
    · rw [List.getElem?_set_ne hik]
      simp [Ne.symm hik]
  · change (s.spares.set i .bad)[k]? = some .testing ↔ False
    by_cases hik : i = k
    · subst hik
      rw [List.getElem?_set_self (by omega)]
      simp
    · rw [List.getElem?_set_ne hik, htesting k hk]
      exact iff_false_intro (hnone k)

theorem completed_core (hs : RepairCore s) {j : CopyJob} (hj : s.engine = .copying j) :
    RepairCore ((s.completeMap j).setEngine .idle) := by
  obtain ⟨l, e, l', hm, hregion, hspare, hstate, hupdate⟩ := job_split hs hj
  obtain ⟨hmap, hpool, hqueue, -⟩ := hs
  have hasc := ascending_updateEntry hmap.1 j.region (f := completeEntry j.poison) (by simp)
  have hdone := completeEntry_of_copying hstate j.poison
  rw [hupdate] at hasc
  have hlive : (completeEntry j.poison e).isCopying = false := by simp [hdone, MapEntry.isCopying]
  have hnames : namesOf s.V (completeEntry j.poison e) = [e.spare] := by simp [hdone, namesOf, MapEntry.oldSpare?]
  have hbeside := mapLaw_beside (hm ▸ hmap) (perm_split l l' e)
  obtain ⟨hlaw, hlaws, hnodup, hcount⟩ := hbeside
  have hmap' : MapLaw s.V s.S (l ++ completeEntry j.poison e :: l') := by
    refine mapLaw_of_perm (perm_split l l' _) hasc (law_complete hlaw hstate _) hlaws ?_ ?_
    · rw [hnames]
      exact hnodup.sublist (((List.nil_sublist _).cons_cons e.spare).append (.refl _))
    · rw [hlive]
      simp only [Bool.false_eq_true, if_false]
      omega
  have hqueue' := queueLaw_split hqueue hm (e' := completeEntry j.poison e) (by simp) (by simp [hlive])
  have hnone (k : Nat) : ¬ Tests s.engine k := by
    rw [hj]
    exact id
  have hnamed (k : Nat) : k ∈ namedSpares s.V (l ++ completeEntry j.poison e :: l') ↔
      k = e.spare ∨ k ∈ namedSpares s.V (l ++ l') := by
    rw [mem_namedSpares_iff (perm_split l l' _), hnames, List.mem_singleton]
  unfold State.completeMap
  rw [hupdate]
  dsimp only
  split
  · next hkind =>
    rw [hkind] at hstate
    have hold : namesOf s.V e = [e.spare, j.source - s.V] := by simp [namesOf, MapEntry.oldSpare?, hstate]
    rw [hold] at hnodup
    have hlt : j.source - s.V < s.S := by
      obtain ⟨-, -, -, hrange⟩ := hlaw
      rw [hstate] at hrange
      obtain ⟨hV, hS, -⟩ := hrange
      omega
    refine ⟨hmap', poolLaw_complete hpool hnone hlt fun k => ?_, hqueue', trivial⟩
    rw [hnamed, hm, mem_namedSpares_iff (perm_split l l' e), hold]
    simp only [List.cons_append, List.nil_append, List.nodup_cons, List.mem_cons, not_or] at hnodup
    obtain ⟨⟨hne, -⟩, hnot, -⟩ := hnodup
    simp only [List.mem_cons, List.not_mem_nil, or_false]
    constructor
    · rintro (rfl | hk)
      · exact ⟨.inl (.inl rfl), hne⟩
      · exact ⟨.inr hk, fun h : k = j.source - s.V => hnot (h ▸ hk)⟩
    · rintro ⟨(rfl | rfl) | hk, hki⟩
      · exact .inl rfl
      · exact absurd rfl hki
      · exact .inr hk
  · next hkind =>
    have hretire : j.kind = .retire := by cases hk : j.kind <;> simp_all
    rw [hretire] at hstate
    obtain ⟨hlen, hused, htesting⟩ := poolLaw_iff.mp hpool
    refine ⟨hmap', poolLaw_iff.mpr ⟨hlen, fun k hk => (hused k hk).trans ?_, fun k hk => (htesting k hk).trans ?_⟩, hqueue',
      trivial⟩
    · change k ∈ namedSpares s.V s.map ↔ k ∈ namedSpares s.V (l ++ completeEntry j.poison e :: l')
      rw [hnamed, hm, mem_namedSpares_iff (perm_split l l' e)]
      simp [namesOf, MapEntry.oldSpare?, hstate]
    · exact iff_of_false (hnone k) id

theorem copyAck_core (hs : RepairCore s) {j : CopyJob} (hj : s.engine = .copying j) (hb : s.bridge.state ≠ .contain) :
    RepairCore (s.copyAck j) := by
  by_cases hn : j.cursor < 63
  · exact repairCore_congr (copyAck_same hb hn) (advanced_core hs hj hn)
  · exact repairCore_congr (copyDone_same hb hn).1 (completed_core hs hj)

theorem beginStep_state (s : State) (j : CopyJob) : (s.beginStep j).bridge.state = s.bridge.state := by
  have hhold := (Flow.refl (x := Scope.quiet) (s.setEngine (.copying { j with phase := .waitHold }))).requestHold
    Scope.quiet_coded (fun _ => trivial) (.host (lineOf j.region j.cursor)) .engine
  exact hhold.base.state

theorem copyAck_state (s : State) (j : CopyJob) : (s.copyAck j).bridge.state = s.bridge.state := by
  unfold State.copyAck
  split
  · exact (beginStep_state _ _).trans (release_state _ _)
  · have hstate : (s.completeMap j).bridge.state = s.bridge.state := by
      unfold State.completeMap
      dsimp only
      split <;> rfl
    exact (release_state (s.completeMap j) .engine).trans hstate

/-! ### All commands -/

/-- The scope fits every command but START FORMAT, on a state with the laws. -/
theorem ready_outside (hs : RepairLaw s) (hc : c ≠ .startFormat) : Ready c (Scope.outside s) s := by
  obtain ⟨-, hstandby⟩ := repairLaw_iff.mp hs
  exact ⟨fits_outside hstandby, fun _ _ => trivial, fun ⟨_, hj⟩ => copying_outside hstandby hj, fun h => absurd h hc,
    inbox_outside hstandby⟩

/-- A law holds of whatever state the outcome names. -/
def Ends (L : State → Prop) (o : Host.Outcome State Fault Refusal) : Prop := ∀ t, o = .next t → L t

theorem Ends.next {L : State → Prop} (h : L t) : Ends L (.next t) := by rintro u ⟨⟩; exact h

theorem Ends.unlessHeld {L : State → Prop} {o : Host.Outcome State Fault Refusal} (hs : L s) (h : Ends L o) :
    Ends L (s.unlessHeld o) := by
  cases hlow : s.resetLow with
  | true => rw [State.unlessHeld_of_low hlow]; exact .next hs
  | false => rwa [State.unlessHeld_of_high hlow]

/-- Only the soft reset enters STANDBY. -/
theorem state_of_run (h : Run c x s t) (hsoft : c ≠ .softReset) (hb : s.bridge.state ≠ .standby) :
    t.bridge.state ≠ .standby := by
  induction h with
  | trans _ _ ih ih' => exact ih' (ih hb)
  | flow h => rw [h.base.state]; exact hb
  | arranged key h ih => exact ih hb
  | bridge s b hs => exact hs ▸ hb
  | change s b e _ hn => exact hn
  | geometry s i v _ _ _ hs => exact absurd hs hb
  | softReset s h => exact absurd h hsoft
  | _ => exact hb

theorem writeAck_repairLaw (hs : RepairLaw s) (gen : Byte) (g : Fin 64) : Ends RepairLaw (exec (.writeAck gen g) s) := by
  obtain ⟨hcore, hstandby⟩ := repairLaw_iff.mp hs
  have hfits := fits_outside hstandby
  have hlate : RepairLaw (s.lateAnswer gen g) :=
    (repairLaw_of_run (lateAnswer_run (c := .identify) hfits (fun _ _ => trivial) gen g) id (by simp) id hs).1
  refine .unlessHeld hs ?_
  split
  · next a ha =>
    split
    · let u := s.complete g
      have hu : RepairLaw u := hs
      have hfits' : Fits (Scope.outside s) u := hfits.of rfl rfl rfl
      refine .next ?_
      by_cases hcopy : CopyAck u a.owner .ack ∧ u.bridge.state ≠ .contain
      · obtain ⟨⟨howner, -, j, hj⟩, hb⟩ := hcopy
        have htold : u.tellOwner a.owner .ack = u.copyAck j := by
          rw [howner, State.tellOwner_of_ne hb]
          simp only [State.engineEnd, hj]
        rw [show (s.complete g).tellOwner a.owner .ack = u.copyAck j from htold]
        exact repairLaw_of_core (copyAck_core (repairLaw_iff.mp hu).1 hj hb) (by
          rw [copyAck_state]
          exact copying_outside hstandby hj)
      · refine (repairLaw_of_run (c := .identify) (x := Scope.outside s) (s := u) ?_ id (by simp) id hu).1
        exact tellOwner_run hfits' (by rintro _ _ _ h; cases h) fun h hb => absurd ⟨h, hb⟩ hcopy
    · exact .next hlate
  · exact .next hlate

theorem jobStart_repairLaw (hs : RepairLaw s) : Ends RepairLaw (exec .jobStart s) := by
  obtain ⟨hcore, hstandby⟩ := repairLaw_iff.mp hs
  refine .unlessHeld hs ?_
  split
  · next h =>
    simp only [Bool.and_eq_true, decide_eq_true_eq] at h
    obtain ⟨hidle, hservice⟩ := h
    have hstate := state_of_run (startJob_run (c := .jobStart) (x := Scope.open) trivial (ready_open (c := .jobStart)).fits
      hservice) (by simp) (fun h => by simp [State.inService, h] at hservice)
    exact .next (repairLaw_of_core (started_core hcore hidle (startJob_started hservice)) hstate)
  · exact .next hs

theorem spare?_eq_some {i : Nat} {y : SpareState} (h : s.spare? i = some y) : s.spares[i]? = some y := by
  unfold State.spare? at h
  split at h
  · exact h
  · cases h

theorem mapLoad_repairLaw (hs : RepairLaw s) (r : BitVec 32) (i : Byte) : Ends RepairLaw (exec (.mapLoad r i) s) := by
  refine .unlessHeld hs ?_
  dsimp only
  split
  · exact .next hs
  next hb =>
  split
  · exact .next hs
  next hrange =>
  split
  · exact .next hs
  next hnone =>
  split
  · exact .next hs
  next hfree =>
  exact .next (loadMap_repairLaw hs (by simpa using hb) (by omega) (by simpa using hnone) (spare?_eq_some (by simpa using hfree)))

theorem spareMarkBad_repairLaw (hs : RepairLaw s) (i : Byte) : Ends RepairLaw (exec (.spareMarkBad i) s) := by
  refine .unlessHeld hs ?_
  split
  · exact .next hs
  split
  · exact .next hs
  · exact .next hs
  · exact .next hs
  · exact .next hs
  · next h => exact .next (markBad_repairLaw hs (spare?_eq_some h))

theorem spareTest_repairLaw (hs : RepairLaw s) (i : Byte) : Ends RepairLaw (exec (.spareTest i) s) := by
  refine .unlessHeld hs ?_
  split
  · exact .next hs
  split
  · exact .next hs
  next hidle =>
  split
  · exact .next hs
  next y hy =>
  split
  · exact .next hs
  next hnocopy =>
  split
  · exact .next hs
  next hstate =>
  have hcopy := copyingEntry_eq_none_iff.mp (by simpa using hnocopy)
  have hy' : y = .free ∨ y = .bad := by cases y <;> simp_all
  exact .next (startTest_repairLaw hs (by simpa using hidle) (spare?_eq_some hy) hy' hcopy)

theorem startFormat_repairLaw (hs : RepairLaw s) : Ends RepairLaw (exec .startFormat s) := by
  refine .unlessHeld hs ?_
  split
  · exact .next hs
  next hb =>
  have hb' : s.bridge.state ≠ .contain := by
    intro h
    rw [h] at hb
    exact hb (by decide)
  let u := formatEntered s
  have hstate : u.bridge.state = .format := (raiseStuck_flow (x := Scope.open) _).base.state
  have hcore : RepairCore u := repairCore_of_flow
    (s := (s.changeBridge .format).setBridge { (s.changeBridge .format).bridge with cursor := some ⟨0, true⟩ })
    (repairLaw_iff.mp hs).1 (raiseStuck_flow (x := Scope.open) _)
  have hu : RepairLaw u := repairLaw_of_core hcore (by rw [hstate]; decide)
  have hrun := enterFormat_rest_run (c := .identify) (x := Scope.open) (s := s) (fun _ _ => trivial) trivial trivial
  exact .next (repairLaw_of_run hrun id (by simp) (fun _ => by rw [hstate]; decide) hu).1

theorem reset_repairLaw : RepairLaw State.reset := by
  have hspares : State.reset.spares = List.replicate 64 .free := rfl
  refine repairLaw_iff.mpr ⟨⟨?_, ?_, ?_, trivial⟩, fun _ => ⟨rfl, rfl, rfl, rfl, trivial⟩⟩
  · simp [MapLaw, State.reset, namedSpares]
  · refine poolLaw_iff.mpr ⟨List.length_replicate, fun i hi => ?_, fun i hi => ?_⟩
    · change i < 64 at hi
      rw [hspares, List.getElem?_replicate_of_lt hi]
      simp [State.reset, namedSpares]
    · change i < 64 at hi
      rw [hspares, List.getElem?_replicate_of_lt hi]
      simp [State.reset, Tests]
  · simp [QueueLaw, State.reset]

/-- Settles O59: a change of map, pool, queue or job is made together with what the laws tie to it; all else that a command does
leaves them, and stirs nothing in STANDBY. -/
theorem repairLawKept : Obligations.RepairLawKept := by
  intro c s t _ hs h
  refine kept_by_commands (L := RepairLaw) (fun s hs => hs) (fun s straps _ => reset_repairLaw) (fun c s t hc h hs => ?_) h hs
  cases c with
  | writeAck gen g => exact writeAck_repairLaw hs gen g t h
  | jobStart => exact jobStart_repairLaw hs t h
  | mapLoad r i => exact mapLoad_repairLaw hs r i t h
  | spareMarkBad i => exact spareMarkBad_repairLaw hs i t h
  | spareTest i => exact spareTest_repairLaw hs i t h
  | startFormat => exact startFormat_repairLaw hs t h
  | softReset =>
    have hends : Ends RepairLaw (exec .softReset s) := .unlessHeld hs (.next (softReset_repairLaw hs))
    exact hends t h
  | _ => exact (repairLaw_of_run (exec_run (ready_outside hs (by simp)) hc h) id (by simp) id hs).1

end Sys2Proof.Proofs
end

section
/-! The Suspect Table's law and the bound on its REQUESTED entries (R99), for every command; the laws at hard reset. -/

-- Fewer threads at once: each takes a part of the memory that a check of the whole text may use.
set_option Elab.async false

namespace Sys2Proof.Proofs

open Sys2Proof Sys2Proof.Machine

variable {c : Instr} {x : Scope} {s t : State}

/-! ### The table's law -/

/-- The law of the table, of a list of entries. -/
def SuspectsFit (l : List Suspect) : Prop := l.length ≤ 32 ∧ (l.map (·.region)).Nodup ∧ ∀ e ∈ l, e.count ≤ 255

theorem suspectLaw_iff : SuspectLaw s ↔ SuspectsFit s.suspects := Iff.rfl

theorem SuspectsFit.sublist {l l' : List Suspect} (h : SuspectsFit l) (hl : l'.Sublist l) : SuspectsFit l' := by
  obtain ⟨hlen, hnodup, hcount⟩ := h
  exact ⟨hl.length_le.trans hlen, hnodup.sublist (hl.map _), fun e he => hcount e (hl.subset he)⟩

theorem SuspectsFit.map {l : List Suspect} (h : SuspectsFit l) {f : Suspect → Suspect} (hf : ∀ e, (f e).region = e.region)
    (hc : ∀ e ∈ l, (f e).count ≤ 255) : SuspectsFit (l.map f) := by
  obtain ⟨hlen, hnodup, -⟩ := h
  refine ⟨by simpa using hlen, ?_, by simpa using hc⟩
  rw [List.map_map]
  simpa [Function.comp_def, hf] using hnodup

theorem putSuspect_fits (h : SuspectLaw s) {e : Suspect} (he : e.count ≤ 255) : SuspectLaw (s.putSuspect e) := by
  refine SuspectsFit.map h (fun y => ?_) fun y hy => ?_
  · split
    · next hr => exact hr.symm
    · rfl
  · split
    · exact he
    · exact h.2.2 y hy

theorem submit_suspects (s : State) (r : Request) : (s.submit r).suspects = s.suspects := by
  unfold State.submit
  split <;> rfl

theorem fire_fits (h : SuspectLaw s) {e : Suspect} (he : e.count ≤ 255) : SuspectLaw (s.fire e) := by
  have hfor (r : Request) : SuspectLaw (s.submitFor e r) := by
    unfold State.submitFor
    split
    · exact putSuspect_fits (by rwa [suspectLaw_iff, submit_suspects]) he
    · exact putSuspect_fits h he
    · exact h
  unfold State.fire
  split
  · split
    · exact hfor _
    · exact hfor _
    all_goals exact h
  · exact putSuspect_fits (s := s.logEvent _) h he

/-- An entry after its report: region, and what its count and status can be (R104, R108). -/
theorem reported_entry (s : State) (e : Suspect) (k : ReportKind) :
    let e' := s.unstrand (e.report k s.touchPass)
    e'.region = e.region ∧ (e.count ≤ 255 → e'.count ≤ 255) ∧ (e'.status = .requested → e.status = .requested) := by
  have hreport : (e.report k s.touchPass).region = e.region ∧ (e.count ≤ 255 → (e.report k s.touchPass).count ≤ 255) ∧
      (e.report k s.touchPass).status = e.status := by
    unfold Suspect.report satSucc
    cases k with
    | corrected sym => exact ⟨rfl, fun h => by dsimp only; split <;> omega, rfl⟩
    | transient => exact ⟨rfl, fun h => by dsimp only; split <;> omega, rfl⟩
    | uncorrectable => exact ⟨rfl, id, rfl⟩
  obtain ⟨hregion, hcount, hstatus⟩ := hreport
  dsimp only
  unfold State.unstrand
  split
  · exact ⟨hregion, hcount, fun h => by cases h⟩
  · exact ⟨hregion, hcount, fun h => hstatus ▸ h⟩

theorem updateSuspect_fits (h : SuspectLaw s) {e : Suspect} (he : e.count ≤ 255) (k : ReportKind) :
    SuspectLaw (s.updateSuspect e k) := by
  obtain ⟨-, hcount, -⟩ := reported_entry s e k
  unfold State.updateSuspect
  dsimp only
  split
  · exact fire_fits (putSuspect_fits h (hcount he)) (hcount he)
  · exact putSuspect_fits h (hcount he)

theorem createSuspect_fits (h : SuspectLaw s) {q : Nat} (hroom : s.suspects.length < 32) (hq : ∀ e ∈ s.suspects, e.region ≠ q)
    (k : ReportKind) : SuspectLaw (s.createSuspect q k) := by
  obtain ⟨-, hnodup, hcount⟩ := h
  refine updateSuspect_fits ?_ (Nat.zero_le _) k
  refine ⟨?_, ?_, ?_⟩
  · rw [State.setSuspects_suspects, List.length_append, List.length_singleton]
    omega
  · rw [State.setSuspects_suspects, List.map_append, List.nodup_append]
    refine ⟨hnodup, by simp, ?_⟩
    simpa [newSuspect] using fun e he => hq e he
  · simpa [or_imp, forall_and, newSuspect] using hcount

theorem evictionChoice_mem {pass : BitVec 16} {l : List Suspect} {b : Suspect} (h : evictionChoice pass l = some b) : b ∈ l := by
  induction l with
  | nil => cases h
  | cons e l ih =>
    rw [evictionChoice] at h
    split at h
    · split at h
      · cases h; simp
      · cases h
    · next b' hb' =>
      split at h
      · cases h; simp
      · cases h; exact List.mem_cons_of_mem _ (ih hb')

theorem newReport_fits (h : SuspectLaw s) {q : Nat} (hq : ∀ e ∈ s.suspects, e.region ≠ q) (k : ReportKind) :
    SuspectLaw (s.newReport q k) := by
  unfold State.newReport
  split
  · next hroom => exact createSuspect_fits h hroom hq k
  · split
    · next b hb =>
      have hmem := evictionChoice_mem hb
      have hshort : (s.suspects.filter fun e => e.region ≠ b.region).length < s.suspects.length :=
        List.length_filter_lt_length_iff_exists.mpr ⟨b, hmem, by simp⟩
      have hfits : SuspectLaw ((s.removeSuspect b.region).logEvent (.suspectEvicted b.region b.count)) :=
        SuspectsFit.sublist h List.filter_sublist
      refine createSuspect_fits hfits (hshort.trans_le h.1) (fun e he => hq e (List.mem_of_mem_filter he)) k
    · exact h

theorem correctedEvent_same (s : State) (r : Report) : (s.correctedEvent r).suspects = s.suspects ∧
    (s.correctedEvent r).inbox = s.inbox := by
  unfold State.correctedEvent
  split
  · split <;> exact ⟨rfl, rfl⟩
  all_goals exact ⟨rfl, rfl⟩

theorem suspectOf_eq_some {q : Nat} {e : Suspect} (h : s.suspectOf q = some e) : e ∈ s.suspects ∧ e.region = q :=
  ⟨List.mem_of_find?_eq_some h, by simpa using List.find?_some h⟩

theorem takeReport_fits (h : SuspectLaw s) (r : Report) : SuspectLaw (s.takeReport r) := by
  unfold State.takeReport
  dsimp only
  split
  · exact h
  · have ht : SuspectLaw (s.correctedEvent r) := by rwa [suspectLaw_iff, (correctedEvent_same s r).1]
    split
    · next e he => exact updateSuspect_fits ht (ht.2.2 e (suspectOf_eq_some he).1) _
    · next hnone =>
      refine newReport_fits ht ?_ _
      simpa [State.suspectOf] using hnone

theorem endTestSilently_suspects (s : State) : s.endTestSilently.suspects = s.suspects := by
  unfold State.endTestSilently; split <;> rfl

theorem softReset_suspects (s : State) : s.softReset.suspects =
    s.suspects.map fun e => if e.status = .requested then { e with status := .watch } else e := by
  rw [State.softReset, softResetDiag_eq, softResetEngine_eq]; rfl

/-- Commands that neither report, notice nor clear keep the table, empty it, or return its REQUESTED entries to WATCH. -/
theorem suspectLaw_of_run (h : Run c x s t) (hc : ¬ Tracks c) (hs : SuspectLaw s) : SuspectLaw t := by
  induction h with
  | trans _ _ ih ih' => exact ih' (ih hs)
  | flow h => rwa [suspectLaw_iff, h.base.suspects]
  | suspects s l h => exact absurd h hc
  | arranged key h ih => exact ih hs
  | geometry s i v => exact ⟨Nat.zero_le _, List.nodup_nil, by simp [State.geometryChange]⟩
  | softReset s =>
    rw [suspectLaw_iff, softReset_suspects]
    refine SuspectsFit.map hs (fun e => ?_) fun e he => ?_
    · split <;> rfl
    · split <;> exact hs.2.2 e he
  | _ => exact hs

/-- What a pass-end notice makes of an entry (R110). -/
theorem decay_entry (n : BitVec 16) (e : Suspect) : (e.decay n).region = e.region ∧ (e.decay n).count ≤ e.count ∧
    (e.decay n).status = e.status := by
  unfold Suspect.decay
  split
  · exact ⟨rfl, Nat.div_le_self _ _, rfl⟩
  · exact ⟨rfl, Nat.le_refl _, rfl⟩

end Sys2Proof.Proofs
end

section
/-! What each REQUESTED entry stands for, and the bound of nine (R99, R106, R108, R109). -/

-- Fewer threads at once: each takes a part of the memory that a check of the whole text may use.
set_option Elab.async false

namespace Sys2Proof.Proofs

open Sys2Proof Sys2Proof.Machine

variable {c : Instr} {x : Scope} {s t : State}

/-! ### Standing for a request, a job or a notice -/

/-- Every REQUESTED entry stands for something. -/
def AllStand (s : State) : Prop := ∀ e ∈ s.suspects, e.status = .requested → StandsFor s e.region

theorem standsFor_of_subset {q : Nat} (hV : t.V = s.V) (hm : t.map = s.map) (hq : s.queue ⊆ t.queue) (hi : s.inbox ⊆ t.inbox)
    (h : StandsFor s q) : StandsFor t q := by
  rcases h with ⟨r, hr, hsource⟩ | ⟨e, he, hsource⟩ | h | h
  · exact .inl ⟨r, hq hr, by rw [hV, hm]; exact hsource⟩
  · exact .inr (.inl ⟨e, hm ▸ he, hsource⟩)
  · exact .inr (.inr (.inl (hi h)))
  · exact .inr (.inr (.inr (hi h)))

theorem requestedLaw_of_subset (hV : t.V = s.V) (hm : t.map = s.map) (hq : s.queue ⊆ t.queue) (hi : s.inbox ⊆ t.inbox)
    (hsus : t.suspects = s.suspects) (h : RequestedLaw s) : RequestedLaw t := by
  obtain ⟨hcount, hall⟩ := h
  rw [RequestedLaw, hsus]
  exact ⟨hcount, fun e he hr => standsFor_of_subset hV hm hq hi (hall e he hr)⟩

theorem closeVisit_inbox (s : State) (e : VisitEnd) : s.inbox ⊆ (s.closeVisit e).inbox := by
  rw [closeVisit_eq]
  split
  · exact List.subset_append_left _ _
  · exact List.Subset.refl _

/-- What was handed stays handed. -/
theorem Flow.inbox (h : Flow x s t) : s.inbox ⊆ t.inbox := by
  induction h with
  | trans _ _ ih ih' => exact List.Subset.trans ih ih'
  | hand s y => exact List.subset_append_left _ _
  | closeVisit s e => exact closeVisit_inbox s e
  | _ => exact List.Subset.refl _

theorem requestedLaw_of_flow (h : Flow x s t) (hs : RequestedLaw s) : RequestedLaw t := by
  have hb := h.base
  refine requestedLaw_of_subset ?_ hb.map (by rw [hb.queue]; exact List.Subset.refl _) h.inbox hb.suspects hs
  rw [State.V, State.P, State.S, hb.params]
  rfl

/-- Without a REQUESTED entry there is nothing to stand for. -/
theorem requestedLaw_of_none (h : ∀ e ∈ s.suspects, e.status ≠ .requested) : RequestedLaw s := by
  refine ⟨?_, fun e he hr => absurd hr (h e he)⟩
  rw [List.countP_eq_zero.mpr fun e he => by simpa using h e he]
  decide

/-- Commands that leave map, queue and table to others. -/
theorem requestedLaw_of_run (h : Run c x s t) (hc : ¬ Tracks c) (hr : ¬ Repairs c) (hs : RequestedLaw s) : RequestedLaw t := by
  induction h with
  | trans _ _ ih ih' => exact ih' (ih hs)
  | flow h => exact requestedLaw_of_flow h hs
  | map s m h => exact absurd h hr
  | queue s l h => exact absurd h hr
  | suspects s l h => exact absurd h hc
  | inbox s l h => exact absurd h hc
  | submit s r => exact requestedLaw_of_subset (s := s) rfl rfl (List.subset_append_left _ _) (List.Subset.refl _) rfl hs
  | arranged key h ih => exact ih hs
  | param s p _ _ hP hS =>
    refine requestedLaw_of_subset (s := s) ?_ rfl (List.Subset.refl _) (List.Subset.refl _) rfl hs
    rw [State.V, State.P, State.S, State.setMgmt_mgmt, hP, hS]
    rfl
  | alertLevel s p _ _ hP hS =>
    refine requestedLaw_of_subset (s := s) ?_ rfl (List.Subset.refl _) (List.Subset.refl _) rfl hs
    change p.memRegions - p.spareCount = _
    rw [hP, hS]
    rfl
  | geometry s i v => exact requestedLaw_of_none (by simp [State.geometryChange])
  | softReset s =>
    refine requestedLaw_of_none fun e he => ?_
    rw [softReset_suspects] at he
    obtain ⟨e', -, rfl⟩ := List.mem_map.mp he
    split
    · exact fun h => by cases h
    · next h => exact h
  | _ => exact hs

/-- Entries and inbox of a command that tracks nothing. -/
theorem untracked_of_run (h : Run c x s t) (hc : ¬ Tracks c) (hset : ∀ i v, c ≠ .configSet i v) (hsoft : c ≠ .softReset) :
    t.suspects = s.suspects ∧ s.inbox ⊆ t.inbox := by
  induction h with
  | trans _ _ ih ih' => exact ⟨ih'.1.trans ih.1, List.Subset.trans ih.2 ih'.2⟩
  | flow h => exact ⟨h.base.suspects, h.inbox⟩
  | suspects s l h => exact absurd h hc
  | inbox s l h => exact absurd h hc
  | arranged key h ih => exact ih
  | geometry s i v h =>
    obtain ⟨i', v', rfl⟩ := h
    exact absurd rfl (hset i' v')
  | softReset s h => exact absurd h hsoft
  | _ => exact ⟨rfl, List.Subset.refl _⟩

/-! ### The commands that change the map or take a spare -/

theorem spareMarkBad_requested (hs : RequestedLaw s) (i : Byte) : Ends RequestedLaw (exec (.spareMarkBad i) s) := by
  refine .unlessHeld hs ?_
  split
  · exact .next hs
  split
  all_goals exact .next hs

theorem spareTest_requested (hs : RequestedLaw s) (i : Byte) : Ends RequestedLaw (exec (.spareTest i) s) := by
  refine .unlessHeld hs ?_
  split
  · exact .next hs
  split
  · exact .next hs
  split
  · exact .next hs
  next y hy =>
  split
  · exact .next hs
  split
  · exact .next hs
  refine .next ?_
  have hset : RequestedLaw ((s.setSpare i.toNat .testing).setEngine (.testing ⟨i.toNat, 0, .waitHold, 0, y⟩)) := hs
  have hstart : RequestedLaw (s.startTest i.toNat y) :=
    requestedLaw_of_flow ((Flow.refl _).requestHold Scope.quiet_coded (fun _ => trivial) _ _) hset
  exact hstart

theorem mapLoad_requested (hs : RequestedLaw s) (hstandby : StandbyLaw s) (r : BitVec 32) (i : Byte) :
    Ends RequestedLaw (exec (.mapLoad r i) s) := by
  refine .unlessHeld hs ?_
  dsimp only
  split
  · exact .next hs
  next hb =>
  split
  · exact .next hs
  split
  · exact .next hs
  split
  · exact .next hs
  refine .next ⟨hs.1, fun e he hr => ?_⟩
  have hempty : s.queue = [] := (hstandby (by simpa using hb)).1
  rcases hs.2 e he hr with ⟨q, hq, -⟩ | ⟨e', he', hsource⟩ | h | h
  · rw [hempty] at hq
    cases hq
  · exact .inr (.inl ⟨e', (insertEntry_perm _ _).mem_iff.mpr (List.mem_cons_of_mem _ he'), hsource⟩)
  · exact .inr (.inr (.inl h))
  · exact .inr (.inr (.inr h))

/-- An update that keeps region and spare keeps what the requests are for. -/
theorem source_updateEntry {V : Nat} {m : List MapEntry} {q : Nat} {f : MapEntry → MapEntry} (hf : ∀ e, (f e).region = e.region)
    (hspare : ∀ e, (f e).spare = e.spare) (r : Request) : r.source V (updateEntry m q f) = r.source V m := by
  rw [Request.source, Request.source, findEntry_updateEntry hf]
  cases findEntry m r.region with
  | none => rfl
  | some e =>
    simp only [Option.map_some]
    split
    · rw [hspare]
    · rfl

@[simp] theorem advanceEntry_spare (b : Bool) (e : MapEntry) : (advanceEntry b e).spare = e.spare := by
  unfold advanceEntry; split <;> rfl
@[simp] theorem completeEntry_spare (b : Bool) (e : MapEntry) : (completeEntry b e).spare = e.spare := by
  unfold completeEntry; split <;> rfl

/-- A step acknowledged moves a job on, or ends it with its notice handed (R25, R53). -/
theorem copyAck_standsFor (hcore : RepairCore s) {j : CopyJob} (hj : s.engine = .copying j) (hb : s.bridge.state ≠ .contain)
    (hi : s.inbox ⊆ (s.copyAck j).inbox) {q : Nat} (h : StandsFor s q) : StandsFor (s.copyAck j) q := by
  obtain ⟨l, e, l', hm, hregion, hspare, hstate, hupdate⟩ := job_split hcore hj
  have hsourceOf : e.source? = some j.source := by simp [MapEntry.source?, hstate]
  by_cases hn : j.cursor < 63
  · have hsame := copyAck_same hb hn
    have hmap : (s.copyAck j).map = updateEntry s.map j.region (advanceEntry j.poison) := hsame.map
    have hadv := advanceEntry_of_copying hstate j.poison
    rcases h with ⟨r, hr, hsource⟩ | ⟨y, hy, hsource⟩ | h | h
    · refine .inl ⟨r, hsame.queue.symm ▸ hr, ?_⟩
      rw [hmap, source_updateEntry (by simp) (by simp), hsame.V]
      exact hsource
    · refine .inr (.inl ?_)
      rw [hmap, hupdate]
      rcases mem_split_iff.mp (hm ▸ hy) with rfl | hy
      · exact ⟨_, mem_split_iff.mpr (.inl rfl), by rw [hadv]; simpa [MapEntry.source?, hstate] using hsource⟩
      · exact ⟨y, mem_split_iff.mpr (.inr hy), hsource⟩
    · exact .inr (.inr (.inl (hi h)))
    · exact .inr (.inr (.inr (hi h)))
  · obtain ⟨hsame, hremoval⟩ := copyDone_same hb hn
    have hmap : (s.copyAck j).map = updateEntry s.map j.region (completeEntry j.poison) := by
      refine hsame.map.trans ?_
      unfold State.completeMap
      dsimp only
      split <;> rfl
    have hqueue : (s.copyAck j).queue = s.queue := by
      refine hsame.queue.trans ?_
      unfold State.completeMap
      dsimp only
      split <;> rfl
    have hV : (s.copyAck j).V = s.V := by
      refine hsame.V.trans ?_
      unfold State.completeMap
      dsimp only
      split <;> rfl
    rcases h with ⟨r, hr, hsource⟩ | ⟨y, hy, hsource⟩ | h | h
    · refine .inl ⟨r, hqueue.symm ▸ hr, ?_⟩
      rw [hmap, source_updateEntry (by simp) (by simp), hV]
      exact hsource
    · rcases mem_split_iff.mp (hm ▸ hy) with rfl | hy
      · rw [hsourceOf] at hsource
        cases hsource
        exact .inr (.inr (.inr hremoval))
      · refine .inr (.inl ⟨y, ?_, hsource⟩)
        rw [hmap, hupdate]
        exact mem_split_iff.mpr (.inr hy)
    · exact .inr (.inr (.inl (hi h)))
    · exact .inr (.inr (.inr (hi h)))

theorem writeAck_requested (hlaw : RepairLaw s) (hs : RequestedLaw s) (gen : Byte) (g : Fin 64) :
    Ends RequestedLaw (exec (.writeAck gen g) s) := by
  have hfits := (ready_open (c := .identify) (s := s)).fits
  have hlate : RequestedLaw (s.lateAnswer gen g) :=
    requestedLaw_of_run (lateAnswer_run (c := .identify) hfits (fun _ _ => trivial) gen g) id id hs
  refine .unlessHeld hs ?_
  split
  · next a ha =>
    split
    · let u := s.complete g
      have hu : RequestedLaw u := hs
      have hfits' : Fits Scope.open u := hfits.of rfl rfl rfl
      refine .next ?_
      by_cases hcopy : CopyAck u a.owner .ack ∧ u.bridge.state ≠ .contain
      · obtain ⟨⟨howner, -, j, hj⟩, hb⟩ := hcopy
        have htold : u.tellOwner a.owner .ack = u.copyAck j := by
          rw [howner, State.tellOwner_of_ne hb]
          simp only [State.engineEnd, hj]
        have hcore : RepairCore u := (repairLaw_iff.mp hlaw).1
        have hrun := copyAck_run (c := .writeAck gen g) trivial hfits' hb j trivial
        obtain ⟨hsus, hinbox⟩ := untracked_of_run hrun id (by simp) (by simp)
        rw [show (s.complete g).tellOwner a.owner .ack = u.copyAck j from htold]
        rw [RequestedLaw, hsus]
        exact ⟨hu.1, fun e he hr => copyAck_standsFor hcore hj hb hinbox (hu.2 e he hr)⟩
      · refine requestedLaw_of_run (c := .identify) (x := Scope.open) (s := u) ?_ id id hu
        exact tellOwner_run hfits' (by rintro _ _ _ h; cases h) fun h hb => absurd ⟨h, hb⟩ hcopy
    · exact .next hlate
  · exact .next hlate

theorem source_insertEntry {V : Nat} {m : List MapEntry} {e : MapEntry} {r : Request} (h : r.region ≠ e.region) :
    r.source V (insertEntry e m) = r.source V m := by
  rw [Request.source, Request.source, findEntry_insertEntry (Ne.symm h)]

/-- A job start turns a request into a job, or refuses it with its notice handed (R45 to R47). -/
theorem started_standsFor (hcore : RepairCore s) (h : Started s t) (hi : s.inbox ⊆ t.inbox) {q : Nat} (hq : StandsFor s q) :
    StandsFor t q := by
  obtain ⟨hmap, -, hqueue, -⟩ := hcore
  cases h with
  | none => exact hq
  | resumed e k q n he hstate h => exact standsFor_of_subset h.V h.map (by rw [h.queue]; exact List.Subset.refl _) hi hq
  | dropped r rest hlist hodd =>
    obtain ⟨-, -, -, hkind⟩ := queueLaw_tail hqueue hlist
    rcases hodd with ⟨hk, hex⟩ | ⟨hk, hnone⟩
    · have := hkind.mpr hex
      rw [hk] at this
      cases this
    · obtain ⟨e, he, hregion⟩ := hkind.mp hk
      exact absurd hregion (findEntry_eq_none_iff.mp hnone e he)
  | refused r rest hlist h hstranded =>
    rcases hq with ⟨r', hr', hsource⟩ | ⟨e, he, hsource⟩ | hq | hq
    · rw [hlist] at hr'
      rcases List.mem_cons.mp hr' with rfl | hr'
      · exact .inr (.inr (.inl (hsource ▸ hstranded)))
      · refine .inl ⟨r', h.queue.symm ▸ hr', ?_⟩
        rw [h.V, h.map]
        exact hsource
    · exact .inr (.inl ⟨e, h.map.symm ▸ he, hsource⟩)
    · exact .inr (.inr (.inl (hi hq)))
    · exact .inr (.inr (.inr (hi hq)))
  | retired r rest i hlist hk hnone hfree hcopy h =>
    obtain ⟨-, hne, -, -⟩ := queueLaw_tail hqueue hlist
    have hm : t.map = insertEntry (retireEntry r.region i r.origin) s.map := h.map
    rcases hq with ⟨r', hr', hsource⟩ | ⟨e, he, hsource⟩ | hq | hq
    · rw [hlist] at hr'
      rcases List.mem_cons.mp hr' with rfl | hr'
      · refine .inr (.inl ⟨retireEntry r'.region i r'.origin, ?_, ?_⟩)
        · rw [hm]
          exact (insertEntry_perm _ _).mem_iff.mpr (by simp)
        · rw [Request.source, hnone] at hsource
          rw [← hsource]
          rfl
      · refine .inl ⟨r', h.queue.symm ▸ hr', ?_⟩
        rw [h.V, hm, source_insertEntry (e := retireEntry r.region i r.origin) (hne r' hr')]
        exact hsource
    · refine .inr (.inl ⟨e, ?_, hsource⟩)
      rw [hm]
      exact (insertEntry_perm _ _).mem_iff.mpr (List.mem_cons_of_mem _ he)
    · exact .inr (.inr (.inl (hi hq)))
    · exact .inr (.inr (.inr (hi hq)))
  | replaced r rest i e hlist hk he hfree hcopy h =>
    obtain ⟨-, hne, -, -⟩ := queueLaw_tail hqueue hlist
    obtain ⟨l, l', hsplit, hregion, -, hupdate⟩ := updateEntry_split hmap.1 he
    have hm : t.map = updateEntry s.map r.region (convertEntry s.V i) := h.map
    rcases hq with ⟨r', hr', hsource⟩ | ⟨y, hy, hsource⟩ | hq | hq
    · rw [hlist] at hr'
      rcases List.mem_cons.mp hr' with rfl | hr'
      · refine .inr (.inl ⟨convertEntry s.V i e, ?_, ?_⟩)
        · rw [hm, hupdate]
          exact mem_split_iff.mpr (.inl rfl)
        · rw [Request.source, he] at hsource
          rw [← hsource]
          rfl
      · refine .inl ⟨r', h.queue.symm ▸ hr', ?_⟩
        refine Eq.trans ?_ hsource
        rw [h.V, hm, Request.source, Request.source, findEntry_updateEntry (f := convertEntry s.V i) fun _ => rfl]
        cases hfound : findEntry s.map r'.region with
        | none => rfl
        | some y =>
          have hy : y.region = r'.region := by simpa using List.find?_some hfound
          simp only [Option.map_some]
          rw [if_neg (by rw [hy]; exact hne r' hr')]
          rfl
    · have hlive := isCopying_eq_false_iff.mp (hcopy y hy)
      simp [MapEntry.source?, hlive] at hsource
    · exact .inr (.inr (.inl (hi hq)))
    · exact .inr (.inr (.inr (hi hq)))

theorem jobStart_requested (hlaw : RepairLaw s) (hs : RequestedLaw s) : Ends RequestedLaw (exec .jobStart s) := by
  refine .unlessHeld hs ?_
  split
  · next h =>
    simp only [Bool.and_eq_true, decide_eq_true_eq] at h
    obtain ⟨-, hservice⟩ := h
    have hrun := startJob_run (c := .jobStart) (x := Scope.open) trivial (ready_open (c := .jobStart)).fits hservice
    obtain ⟨hsus, hinbox⟩ := untracked_of_run hrun id (by simp) (by simp)
    refine .next ?_
    rw [RequestedLaw, hsus]
    exact ⟨hs.1, fun e he hr => started_standsFor (repairLaw_iff.mp hlaw).1 (startJob_started hservice) hinbox (hs.2 e he hr)⟩
  · exact .next hs

end Sys2Proof.Proofs
end

section
/-! Reports and notices against the bound of nine (R99, R106, R108 to R110), and the Suspect Table's laws for every command. -/

-- Fewer threads at once: each takes a part of the memory that a check of the whole text may use.
set_option Elab.async false

namespace Sys2Proof.Proofs

open Sys2Proof Sys2Proof.Machine

variable {c : Instr} {x : Scope} {s t : State}

/-! ### What a report does to the table -/

/-- The table holds a REQUESTED entry for the region. -/
def HoldsRequested (s : State) (q : Nat) : Prop := ∃ e ∈ s.suspects, e.region = q ∧ e.status = .requested

/-- What a report on region `q` can do: the entries of other regions stay or are evicted, and that of the region is REQUESTED
only where it was or stands for something. -/
structure Reported (q : Nat) (s t : State) : Prop where
  others : (t.suspects.filter fun e => e.region ≠ q).Sublist (s.suspects.filter fun e => e.region ≠ q)
  V : t.V = s.V
  map : t.map = s.map
  queue : s.queue ⊆ t.queue
  inbox : t.inbox = s.inbox
  stands : HoldsRequested t q → StandsFor t q ∨ HoldsRequested s q

theorem Reported.standsFor {q p : Nat} (h : Reported q s t) (hp : StandsFor s p) : StandsFor t p :=
  standsFor_of_subset h.V h.map h.queue (by rw [h.inbox]; exact List.Subset.refl _) hp

theorem Reported.of_same {q : Nat} (hsus : t.suspects = s.suspects) (hV : t.V = s.V) (hm : t.map = s.map) (hq : s.queue ⊆ t.queue)
    (hi : t.inbox = s.inbox) : Reported q s t :=
  ⟨by rw [hsus], hV, hm, hq, hi, fun h => .inr (by rwa [HoldsRequested, hsus] at h)⟩

theorem Reported.refl (q : Nat) (s : State) : Reported q s s := .of_same rfl rfl rfl (List.Subset.refl _) rfl

theorem Reported.trans {q : Nat} {u : State} (h : Reported q s t) (h' : Reported q t u) : Reported q s u := by
  refine ⟨h'.others.trans h.others, h'.V.trans h.V, h'.map.trans h.map, List.Subset.trans h.queue h'.queue,
    h'.inbox.trans h.inbox, fun hu => ?_⟩
  rcases h'.stands hu with hu | ht
  · exact .inl hu
  · exact (h.stands ht).imp_left h'.standsFor

theorem filter_putSuspect {l : List Suspect} {e : Suspect} {q : Nat} (he : e.region = q) :
    (l.map fun y => if y.region = e.region then e else y).filter (fun y => y.region ≠ q) = l.filter fun y => y.region ≠ q := by
  induction l with
  | nil => rfl
  | cons y l ih =>
    rw [List.map_cons, List.filter_cons, List.filter_cons, ih]
    by_cases hy : y.region = q <;> simp [hy, he]

theorem putSuspect_reported {q : Nat} {e : Suspect} (he : e.region = q)
    (hr : e.status = .requested → StandsFor s q ∨ HoldsRequested s q) : Reported q s (s.putSuspect e) := by
  refine ⟨?_, rfl, rfl, List.Subset.refl _, rfl, ?_⟩
  · rw [State.putSuspect, State.setSuspects_suspects, filter_putSuspect he]
  · rintro ⟨e', he', hregion, hstatus⟩
    obtain ⟨y, hy, rfl⟩ := List.mem_map.mp he'
    split at hstatus
    · exact hr hstatus
    · next hne =>
      rw [if_neg hne] at hregion
      exact absurd (hregion.trans he.symm) hne

theorem submit_reported (q : Nat) (s : State) (r : Request) : Reported q s (s.submit r) := by
  unfold State.submit
  split
  · exact .of_same rfl rfl rfl (List.subset_append_left _ _) rfl
  · exact .refl q s

/-! ### What a firing entry's request is for (R106) -/

/-- The requests for host region `r` are for physical region `q`, and no copy job runs for it. -/
def Targets (s : State) (r q : Nat) : Prop :=
  (∀ y : Request, y.region = r → y.source s.V s.map = q) ∧ ∀ e ∈ s.map, e.isCopying = true → e.region ≠ r

theorem targets_of_unmapped {q r : Nat} (h : s.relation q = .unmapped r) : Targets s r q := by
  unfold State.relation relationOf at h
  split at h
  · cases h
  split at h
  · cases h
  split at h
  · split at h
    · next hnone =>
      cases h
      refine ⟨?_, fun e he _ => findEntry_eq_none_iff.mp hnone e he⟩
      rintro y rfl
      rw [Request.source, hnone]
    · cases h
  · split at h <;> cases h

theorem targets_of_inService {q r : Nat} (hmap : Ascending s.map) (h : s.relation q = .inService r) : Targets s r q := by
  unfold State.relation relationOf at h
  split at h
  · cases h
  split at h
  · cases h
  next hnocopy =>
  split at h
  · split at h <;> cases h
  next hV =>
  split at h
  · next e he =>
    cases h
    have hmem := List.mem_of_find?_eq_some he
    have hspare : e.spare = q - s.V := by simpa using List.find?_some he
    have hq : s.V + e.spare = q := by omega
    have hfound := (findEntry_eq_some_iff hmap).mpr ⟨hmem, rfl⟩
    refine ⟨fun y hy => ?_, fun y hy hc hregion => ?_⟩
    · rw [Request.source, hy, hfound]
      exact hq
    · have hsame : y = e := by
        have := (findEntry_eq_some_iff hmap).mpr ⟨hy, hregion⟩
        rw [hfound] at this
        exact (Option.some.inj this).symm
      subst hsame
      simp only [List.find?_eq_none, Bool.and_eq_true, decide_eq_true_eq, not_and] at hnocopy
      exact hnocopy y hy hc hq
  · cases h

/-- A submission accepted or found DUPLICATE leaves a request queued that the entry stands for. -/
theorem standsFor_of_submission {q : Nat} {r : Request} (h : Targets s r.region q) (hsub : s.submission r.region ≠ .full) :
    StandsFor (s.submit r) q := by
  obtain ⟨hsource, hcopy⟩ := h
  cases hs : s.submission r.region with
  | full => exact absurd hs hsub
  | accepted =>
    refine .inl ⟨r, ?_, ?_⟩
    · simp [State.submit, hs]
    · simp only [State.submit, hs]
      exact hsource r rfl
  | duplicate =>
    have hkept : s.submit r = s := by simp [State.submit, hs]
    rw [hkept]
    rw [submission_eq] at hs
    split at hs
    · next hdup =>
      rcases hdup with ⟨y, hy, hregion⟩ | ⟨e, he, hregion, hc⟩
      · exact .inl ⟨y, hy, hsource y hregion⟩
      · exact absurd hregion (hcopy e he hc)
    · split at hs <;> cases hs

theorem submitFor_reported {q : Nat} {e : Suspect} {r : Request} (he : e.region = q) (h : Targets s r.region q) :
    Reported q s (s.submitFor e r) := by
  unfold State.submitFor
  split
  · next hsub =>
    refine (submit_reported q s r).trans (putSuspect_reported he fun _ => .inl ?_)
    exact standsFor_of_submission h (by rw [hsub]; decide)
  · next hsub =>
    refine putSuspect_reported he fun _ => .inl ?_
    have hstands := standsFor_of_submission h (by rw [hsub]; decide)
    rwa [show s.submit r = s by simp [State.submit, hsub]] at hstands
  · exact .of_same rfl rfl rfl (List.Subset.refl _) rfl

theorem fire_reported {q : Nat} (hmap : Ascending s.map) {e : Suspect} (he : e.region = q) : Reported q s (s.fire e) := by
  unfold State.fire
  split
  · split
    · next h => exact submitFor_reported he (targets_of_unmapped (he ▸ h))
    · next h => exact submitFor_reported he (targets_of_inService hmap (he ▸ h))
    all_goals exact .refl q s
  · have hlog : Reported q s (s.logEvent (.suspectThreshold e.region e.count)) := .of_same rfl rfl rfl (List.Subset.refl _) rfl
    exact hlog.trans (putSuspect_reported he fun h => by cases h)

theorem updateSuspect_reported {q : Nat} (hmap : Ascending s.map) {e : Suspect} (hmem : e ∈ s.suspects) (he : e.region = q)
    (k : ReportKind) : Reported q s (s.updateSuspect e k) := by
  obtain ⟨hregion, -, hstatus⟩ := reported_entry s e k
  have hput := putSuspect_reported (s := s) (hregion.trans he) fun hr => .inr ⟨e, hmem, he, hstatus hr⟩
  unfold State.updateSuspect
  dsimp only
  split
  · exact hput.trans (fire_reported (s := s.putSuspect _) hmap (hregion.trans he))
  · exact hput

theorem createSuspect_reported {q : Nat} (hmap : Ascending s.map) (k : ReportKind) : Reported q s (s.createSuspect q k) := by
  have hnew : Reported q s (s.setSuspects (s.suspects ++ [newSuspect q s.touchPass])) := by
    refine ⟨?_, rfl, rfl, List.Subset.refl _, rfl, ?_⟩
    · rw [State.setSuspects_suspects, List.filter_append]
      simp [newSuspect]
    · rintro ⟨e, he, hregion, hstatus⟩
      rcases List.mem_append.mp he with he | he
      · exact .inr ⟨e, he, hregion, hstatus⟩
      · rw [List.mem_singleton.mp he] at hstatus
        cases hstatus
  exact hnew.trans (updateSuspect_reported (s := s.setSuspects (s.suspects ++ [newSuspect q s.touchPass])) hmap
    (List.mem_append_right _ (List.mem_singleton.mpr rfl)) rfl k)

theorem newReport_reported {q : Nat} (hmap : Ascending s.map) (k : ReportKind) : Reported q s (s.newReport q k) := by
  unfold State.newReport
  split
  · exact createSuspect_reported hmap k
  · split
    · next b _ =>
      have hevict : Reported q s ((s.removeSuspect b.region).logEvent (.suspectEvicted b.region b.count)) := by
        refine ⟨List.filter_sublist.filter _, rfl, rfl, List.Subset.refl _, rfl, ?_⟩
        rintro ⟨e, he, hregion, hstatus⟩
        exact .inr ⟨e, List.mem_of_mem_filter he, hregion, hstatus⟩
      refine hevict.trans (createSuspect_reported ?_ k)
      exact hmap
    · exact .of_same rfl rfl rfl (List.Subset.refl _) rfl

theorem takeReport_reported (hmap : Ascending s.map) (r : Report) : Reported (regionOf r.line) s (s.takeReport r) := by
  unfold State.takeReport
  dsimp only
  split
  · exact .refl _ s
  · have hflow := correctedEvent_flow (x := Scope.quiet) s r
    have hbase := hflow.base
    have hev : Reported (regionOf r.line) s (s.correctedEvent r) := by
      refine .of_same hbase.suspects ?_ hbase.map (by rw [hbase.queue]; exact List.Subset.refl _) (correctedEvent_same s r).2
      rw [State.V, State.P, State.S, hbase.params]
      rfl
    have hmap' : Ascending (s.correctedEvent r).map := hbase.map ▸ hmap
    split
    · next e he =>
      obtain ⟨hmem, hregion⟩ := suspectOf_eq_some he
      exact hev.trans (updateSuspect_reported hmap' hmem hregion _)
    · exact hev.trans (newReport_reported hmap' _)

/-! ### The bound (R99) -/

/-- The number of REQUESTED entries. -/
def requestedIn (l : List Suspect) : Nat := l.countP fun e => e.status = .requested

/-- Entries of distinct regions have at most one for region `q`. -/
theorem requestedIn_le_others {l : List Suspect} (h : (l.map (·.region)).Nodup) (q : Nat) :
    requestedIn l ≤ requestedIn (l.filter fun e => e.region ≠ q) + 1 := by
  induction l with
  | nil => simp [requestedIn]
  | cons e l ih =>
    rw [List.map_cons, List.nodup_cons] at h
    obtain ⟨hnot, hnodup⟩ := h
    by_cases he : e.region = q
    · have hall : (e :: l).filter (fun e => e.region ≠ q) = l := by
        rw [List.filter_cons_of_neg (by simpa using he), List.filter_eq_self]
        intro y hy
        simp only [decide_eq_true_eq]
        exact fun hr => hnot (List.mem_map.mpr ⟨y, hy, hr.trans he.symm⟩)
      rw [hall]
      unfold requestedIn
      rw [List.countP_cons]
      split <;> omega
    · have := ih hnodup
      rw [List.filter_cons_of_pos (by simpa using he)]
      unfold requestedIn at this ⊢
      rw [List.countP_cons, List.countP_cons]
      omega

theorem Reported.count_le {q : Nat} (h : Reported q s t) (ht : SuspectLaw t) :
    requestedIn t.suspects ≤ requestedIn s.suspects + 1 := by
  have hothers : requestedIn (t.suspects.filter fun e => e.region ≠ q) ≤ requestedIn (s.suspects.filter fun e => e.region ≠ q) :=
    h.others.countP_le
  have hpart : requestedIn (s.suspects.filter fun e => e.region ≠ q) ≤ requestedIn s.suspects := List.filter_sublist.countP_le
  have := requestedIn_le_others ht.2.1 q
  omega

theorem Reported.allStand {q : Nat} (h : Reported q s t) (hs : AllStand s) : AllStand t := by
  intro e he hr
  by_cases hq : e.region = q
  · rcases h.stands ⟨e, he, hq, hr⟩ with hstands | ⟨e', he', hregion, hstatus⟩
    · exact hq.symm ▸ hstands
    · rw [hq]
      exact h.standsFor (hregion ▸ hs e' he' hstatus)
  · have hmem : e ∈ s.suspects.filter fun e => e.region ≠ q :=
      h.others.subset (List.mem_filter.mpr ⟨he, by simpa using hq⟩)
    exact h.standsFor (hs e (List.mem_of_mem_filter hmem) hr)

theorem length_sources (m : List MapEntry) : (m.filterMap MapEntry.source?).length = m.countP MapEntry.isCopying := by
  induction m with
  | nil => rfl
  | cons e m ih =>
    rw [List.filterMap_cons, List.countP_cons]
    cases h : e.state <;> simp [MapEntry.source?, MapEntry.isCopying, h, ih]

/-- With no notice waiting, the REQUESTED entries stand for distinct requests and the one job: nine at most. -/
theorem requestedIn_le_nine (hcore : RepairCore s) (hs : SuspectLaw s) (hall : AllStand s)
    (hi : s.inbox.any Handed.fromEngine = false) : requestedIn s.suspects ≤ 9 := by
  obtain ⟨⟨-, -, -, hcopy⟩, -, ⟨hlen, -, -⟩, -⟩ := hcore
  obtain ⟨-, hnodup, -⟩ := hs
  let regions := (s.suspects.filter fun e => e.status = .requested).map (·.region)
  let sources := s.queue.map (·.source s.V s.map) ++ s.map.filterMap MapEntry.source?
  have hdistinct : regions.Nodup := hnodup.sublist (List.filter_sublist.map _)
  have hsubset : regions ⊆ sources := by
    intro q hq
    obtain ⟨e, he, rfl⟩ := List.mem_map.mp hq
    obtain ⟨hmem, hstatus⟩ := List.mem_filter.mp he
    simp only [List.any_eq_false] at hi
    rcases hall e hmem (by simpa using hstatus) with ⟨r, hr, hsource⟩ | ⟨y, hy, hsource⟩ | h | h
    · exact List.mem_append_left _ (List.mem_map.mpr ⟨r, hr, hsource⟩)
    · exact List.mem_append_right _ (List.mem_filterMap.mpr ⟨y, hy, hsource⟩)
    · exact absurd rfl (hi _ h)
    · exact absurd rfl (hi _ h)
  have hle := (hdistinct.subperm hsubset).length_le
  have hcount : regions.length = requestedIn s.suspects := by
    rw [List.length_map, requestedIn, List.countP_eq_length_filter]
  have hsources : sources.length ≤ 9 := by
    rw [List.length_append, List.length_map, length_sources]
    omega
  omega

/-! ### The commands of the Health Tracker -/

theorem stranded_mem_append {before after : List Handed} {y z : Handed} (h : z ∈ before ++ y :: after) (hne : z ≠ y) :
    z ∈ before ++ after := by
  simp only [List.mem_append, List.mem_cons] at h ⊢
  tauto

/-- Taking an item that is not the notice an entry stands for. -/
theorem standsFor_setInbox {before after : List Handed} {y : Handed} {q : Nat} (hinbox : s.inbox = before ++ y :: after)
    (hstranded : y ≠ .stranded q) (hremoval : y ≠ .removal q) (h : StandsFor s q) :
    StandsFor (s.setInbox (before ++ after)) q := by
  rcases h with h | h | h | h
  · exact .inl h
  · exact .inr (.inl h)
  · exact .inr (.inr (.inl (stranded_mem_append (hinbox ▸ h) (Ne.symm hstranded))))
  · exact .inr (.inr (.inr (stranded_mem_append (hinbox ▸ h) (Ne.symm hremoval))))

theorem reportTaken_requested (hlaw : RepairLaw s) (hsus : SuspectLaw s) (hs : RequestedLaw s)
    (hkept : ∀ t, exec .reportTaken s = .next t → RepairLaw t) : Ends RequestedLaw (exec .reportTaken s) := by
  refine fun t ht => ?_
  have hcore := (repairLaw_iff.mp (hkept t ht)).1
  refine Ends.unlessHeld (L := fun t => RepairCore t → RequestedLaw t) (fun _ => hs) ?_ t ht hcore
  split
  · next before r after htake =>
    split
    · exact .next fun _ => hs
    · next hwait =>
      have hinbox := takeFirst_eq_append htake
      simp only [Bool.or_eq_true, not_or, Bool.not_eq_true] at hwait
      obtain ⟨-, hwait⟩ := hwait
      let u := s.setInbox (before ++ after)
      have hu : AllStand u := fun e he hr => standsFor_setInbox hinbox (by simp) (by simp) (hs.2 e he hr)
      have hreported := takeReport_reported (s := u) (repairLaw_iff.mp hlaw).1.1.1 r
      have hfits : SuspectLaw (u.takeReport r) := takeReport_fits (s := u) hsus r
      refine .next fun hcore' => ⟨?_, hreported.allStand hu⟩
      cases hany : (u.takeReport r).inbox.any Handed.fromEngine with
      | false => exact requestedIn_le_nine hcore' hfits (hreported.allStand hu) hany
      | true =>
        rw [hreported.inbox] at hany
        have hany' : s.inbox.any Handed.fromEngine = true := by
          obtain ⟨y, hy, hengine⟩ := List.any_eq_true.mp hany
          exact List.any_eq_true.mpr ⟨y, takeFirst_subset htake hy, hengine⟩
        have hle : requestedIn s.suspects ≤ 8 := by
          simp only [State.awaitsNotice, hany', Bool.and_true, decide_eq_false_iff_not] at hwait
          unfold requestedIn
          omega
        have hcount := hreported.count_le hfits
        change requestedIn (u.takeReport r).suspects ≤ requestedIn s.suspects + 1 at hcount
        change requestedIn (u.takeReport r).suspects ≤ 9
        omega
  · exact .next fun _ => hs

/-- A change of the entries that makes none REQUESTED. -/
theorem requestedLaw_map (hs : RequestedLaw s) (f : Suspect → Suspect)
    (hf : ∀ e ∈ s.suspects, (f e).status = .requested → e.status = .requested ∧ (f e).region = e.region ∧ StandsFor t e.region)
    (hsus : t.suspects.Sublist (s.suspects.map f)) : RequestedLaw t := by
  constructor
  · refine (hsus.countP_le).trans (le_trans ?_ hs.1)
    rw [List.countP_map]
    refine List.countP_mono_left fun e he h => ?_
    simpa using (hf e he (by simpa using h)).1
  · intro e he hr
    obtain ⟨y, hy, rfl⟩ := List.mem_map.mp (hsus.subset he)
    obtain ⟨-, hregion, hstands⟩ := hf y hy hr
    exact hregion.symm ▸ hstands

theorem passEndNotice_requested (hs : RequestedLaw s) : Ends RequestedLaw (exec .passEndNotice s) := by
  refine .unlessHeld hs ?_
  split
  · next before n after htake =>
    split
    · exact .next hs
    · refine .next (requestedLaw_map hs (Suspect.decay n) (fun e he hr => ?_) List.filter_sublist)
      obtain ⟨hregion, -, hstatus⟩ := decay_entry n e
      rw [hstatus] at hr
      have hstands := standsFor_setInbox (takeFirst_eq_append htake) (by simp) (by simp) (hs.2 e he hr)
      exact ⟨hr, hregion, hstands⟩
  · exact .next hs

theorem strandedNotice_requested (hs : RequestedLaw s) : Ends RequestedLaw (exec .strandedNotice s) := by
  refine .unlessHeld hs ?_
  split
  · next before q after htake =>
    refine .next (requestedLaw_map hs (fun e => if e.region = q then { e with status := .stranded } else e)
      (fun e he hr => ?_) (.refl _))
    split at hr
    · cases hr
    · next hne =>
      have hstands := standsFor_setInbox (takeFirst_eq_append htake) (by simpa using Ne.symm hne) (by simp) (hs.2 e he hr)
      exact ⟨hr, by rw [if_neg hne], hstands⟩
  · exact .next hs

theorem removalNotice_requested (hs : RequestedLaw s) : Ends RequestedLaw (exec .removalNotice s) := by
  refine .unlessHeld hs ?_
  split
  · next before q after htake =>
    have hall (e : Suspect) (he : e ∈ s.suspects.filter fun e => e.region ≠ q) (hr : e.status = .requested) :
        StandsFor (s.setInbox (before ++ after)) e.region := by
      obtain ⟨hmem, hne⟩ := List.mem_filter.mp he
      have hne : e.region ≠ q := by simpa using hne
      exact standsFor_setInbox (takeFirst_eq_append htake) (by simp) (by simpa using Ne.symm hne) (hs.2 e hmem hr)
    exact .next ⟨(List.filter_sublist.countP_le).trans hs.1, hall⟩
  · exact .next hs

theorem suspectClear_kept {L : State → Prop} (hs : L s) (hmono : ∀ l, l.Sublist s.suspects → L (s.setSuspects l))
    (hreply : ∀ t st b, L t → L (t.reply st b)) (k : Byte) (r : BitVec 32) : Ends L (exec (.suspectClear k r) s) := by
  refine .unlessHeld hs ?_
  split
  · split
    · exact .next (hreply _ _ _ hs)
    · split
      · exact .next (hreply _ _ _ hs)
      · split
        · exact .next (hreply _ _ _ hs)
        · exact .next (hreply _ _ _ (hmono _ List.filter_sublist))
  · split
    · split
      · exact .next (hreply _ _ _ hs)
      · exact .next (hreply _ _ _ (hmono _ (List.nil_sublist _)))
    · exact .next (hreply _ _ _ hs)

theorem tracks_suspectLaw (hc : Tracks c) (hs : SuspectLaw s) : Ends SuspectLaw (exec c s) := by
  cases c with
  | reportTaken =>
    refine .unlessHeld hs ?_
    split
    · next before r after _ =>
      split
      · exact .next hs
      · exact .next (takeReport_fits (s := s.setInbox (before ++ after)) hs r)
    · exact .next hs
  | passEndNotice =>
    refine .unlessHeld hs ?_
    split
    · next n _ _ =>
      split
      · exact .next hs
      · refine .next (SuspectsFit.sublist (SuspectsFit.map hs (f := Suspect.decay n) (fun e => (decay_entry n e).1)
          fun e he => (decay_entry n e).2.1.trans (hs.2.2 e he)) List.filter_sublist)
    · exact .next hs
  | strandedNotice =>
    refine .unlessHeld hs ?_
    split
    · refine .next (SuspectsFit.map hs (fun e => ?_) fun e he => ?_)
      · split <;> rfl
      · split <;> exact hs.2.2 e he
    · exact .next hs
  | removalNotice =>
    refine .unlessHeld hs ?_
    split
    · exact .next (SuspectsFit.sublist hs List.filter_sublist)
    · exact .next hs
  | suspectClear k r => exact suspectClear_kept hs (fun l hl => SuspectsFit.sublist hs hl) (fun t st b h => h) k r
  | _ => exact hc.elim

/-- Settles O34: an entry becomes REQUESTED with a request queued for it, which becomes the job of the COPYING entry, whose end
hands the notice that takes the entry; with no notice waiting the queue's eight and the one job bound the count. -/
theorem suspectLawKept : Obligations.SuspectLawKept := by
  intro c s t hsus h
  constructor
  · refine kept_by_commands (L := SuspectLaw) (fun s hs => hs) (fun s straps _ => ?_) (fun c s t hc h hs => ?_) h hsus
    · exact ⟨Nat.zero_le _, List.nodup_nil, by simp [State.endReset, State.reset]⟩
    · by_cases ht : Tracks c
      · exact tracks_suspectLaw ht hs t h
      · exact suspectLaw_of_run (exec_run ready_open hc h) ht hs
  · intro hcontrol hlaw hs
    by_cases hc : ∃ edge straps, c = .hardReset edge straps
    · obtain ⟨edge, straps, rfl⟩ := hc
      cases edge with
      | fall => cases h; exact hs
      | rise => cases h; exact requestedLaw_of_none (by simp [State.endReset, State.reset])
    have hc : ∀ edge straps, c ≠ .hardReset edge straps := fun edge straps he => hc ⟨edge, straps, he⟩
    cases c with
    | reportTaken => exact reportTaken_requested hlaw hsus hs (fun t => repairLawKept _ s t hcontrol hlaw) t h
    | passEndNotice => exact passEndNotice_requested hs t h
    | strandedNotice => exact strandedNotice_requested hs t h
    | removalNotice => exact removalNotice_requested hs t h
    | suspectClear k r =>
      refine suspectClear_kept hs (fun l hl => ?_) (fun t st b h => h) k r t h
      exact ⟨hl.countP_le.trans hs.1, fun e he hr => hs.2 e (hl.subset he) hr⟩
    | writeAck gen g => exact writeAck_requested hlaw hs gen g t h
    | jobStart => exact jobStart_requested hlaw hs t h
    | mapLoad r i => exact mapLoad_requested hs (repairLaw_iff.mp hlaw).2 r i t h
    | spareMarkBad i => exact spareMarkBad_requested hs i t h
    | spareTest i => exact spareTest_requested hs i t h
    | _ => exact requestedLaw_of_run (exec_run ready_open hc h) id id hs

/-! ### Hard reset -/

/-- Settles O60: after hard reset every table is empty, the bridge is in STANDBY, and the parameters have their defaults. -/
theorem lawsHoldAtReset : Obligations.LawsHoldAtReset := by
  refine ⟨endReset_controlLaw State.reset ⟨false, false⟩, ?_, ?_, by simp [HoldLaw, State.reset], by simp [TagLaw, State.reset],
    ⟨by simp [State.reset], by simp [State.reset], by simp [State.reset]⟩, reset_repairLaw, ?_, by simp [ResponseLaw, State.reset],
    by simp [CodewordLaw, State.reset]⟩
  · refine eventUnit_law_iff.mpr ?_
    simp [State.reset]
  · simp [AlertLaw, State.reset, Params.default]
  · exact requestedLaw_of_none (by simp [State.reset])

/-- Settles O1: `step` is defined so. -/
theorem stepRunsFrontCommand : Obligations.StepRunsFrontCommand := by
  intro c rest s h
  unfold step
  rw [h]
  rfl

end Sys2Proof.Proofs
end

section
/-! Commands that reply from the state, or clear one record (R29, R30, R35, R41, R59, R111, R118, R127, R140, R148, R152, R176, R177,
R180), notices (R108 to R110), and the values after hard reset (R143). -/

-- Fewer threads at once: each takes a part of the memory that a check of the whole text may use.
set_option Elab.async false

namespace Sys2Proof.Proofs

open Sys2Proof Sys2Proof.Machine

variable {s t : State}

/-! ### Bytes -/

theorem absent_append (m n : Nat) : absent m ++ absent n = absent (m + n) := List.replicate_append_replicate

/-- A window of the 72 symbols. -/
theorem drop_take_symbolList (w : Codeword) {o n : Nat} (h : o + n ≤ 72) :
    ((symbolList w).drop o).take n = (List.range n).map fun i => symbolAt w (o + i) := by
  refine List.ext_getElem (by simp [symbolList]; omega) fun i h1 h2 => ?_
  simp [symbolList]

/-! ### The obligations -/

/-- Settles O35: each reply is the command's own byte list; DIAG_READ's is a window of VIEW's symbols. -/
theorem recordReadsReply : Obligations.RecordReadsReply := by
  intro s hreset counts
  have hrun (o : Host.Outcome State Fault Refusal) : s.unlessHeld o = o := State.unlessHeld_of_high hreset o
  refine ⟨hrun _, hrun _, fun i => (hrun _).trans ?_, fun p => (hrun _).trans ?_, (hrun _).trans ?_, hrun _, (hrun _).trans ?_,
    hrun _, fun o n => (hrun _).trans ?_⟩
  · cases s.mgmt.params.get i.toNat <;> rfl
  · cases s.suspects[p.toNat]? <;> split <;> rfl
  · rfl
  · cases s.ev.queue <;> rfl
  · by_cases hin : o.toNat ≤ 71 ∧ 1 ≤ n.toNat ∧ n.toNat ≤ 16 ∧ o.toNat + n.toNat ≤ 72
    · rw [if_neg (by omega), if_pos hin]
      cases hvalid : s.mgmt.view.valid with
      | false => rfl
      | true =>
        obtain ⟨-, -, -, hwindow⟩ := hin
        rw [drop_take_symbolList _ hwindow]
        rfl
    · rw [if_pos (by omega), if_neg hin]

/-- Settles O47: held, the part takes nothing; released, it is the reset state with the strap address and its own queue. -/
theorem hardResetValues : Obligations.HardResetValues := by
  intro s
  refine ⟨fun _ => rfl, fun c hlow hc => exec_of_held hlow hc, fun straps => ⟨s.endReset straps, rfl, rfl, ?_⟩⟩
  refine ⟨⟨rfl, rfl, rfl, rfl, rfl, rfl⟩, ⟨rfl, rfl, rfl, rfl, rfl⟩, ⟨rfl, rfl, rfl, rfl⟩, ⟨rfl, rfl⟩, rfl, rfl, rfl, ?_, ?_, ?_,
    ⟨rfl, rfl, rfl, rfl, rfl, rfl, rfl⟩, rfl⟩
  · obtain ⟨a, b⟩ := straps
    cases a <;> cases b <;> rfl
  · rfl
  · rfl

/-- The position of the only entry of a region. -/
theorem positionOf_eq {pre post : List MapEntry} {e : MapEntry} {r : Nat} (he : e.region = r) (hpre : ∀ x ∈ pre, x.region ≠ r) :
    positionOf (pre ++ e :: post) r = pre.length := by
  rw [positionOf, List.findIdx_append, if_neg, List.findIdx_cons]
  · simp [he]
  · rw [List.findIdx_lt_length]
    rintro ⟨x, hx, hr⟩
    exact hpre x hx (by simpa using hr)

theorem findEntry_append {pre post : List MapEntry} {e : MapEntry} {r : Nat} (he : e.region = r) (hpre : ∀ x ∈ pre, x.region ≠ r) :
    findEntry (pre ++ e :: post) r = some e := by
  rw [findEntry, List.find?_append, List.find?_eq_none.mpr fun x hx => by simpa using hpre x hx]
  simp [he]

/-- The spare of one entry is not the old spare of another, nor its own. -/
theorem spare_ne_oldSpare {V S : Nat} {m : List MapEntry} (h : MapLaw V S m) {e e' : MapEntry} (he : e ∈ m) (he' : e' ∈ m) {i : Nat}
    (hold : e'.oldSpare? V = some i) : e.spare ≠ i := by
  obtain ⟨-, -, hnames, -⟩ := h
  intro hi
  exact (List.disjoint_of_nodup_append hnames) (List.mem_map.mpr ⟨e, he, hi⟩) (List.mem_filterMap.mpr ⟨e', he', hold⟩)

theorem oldSpare_eq_some {V S : Nat} {e : MapEntry} (he : e.law V S) {i : Nat} (h : e.oldSpare? V = some i) :
    ∃ n, e.state = .copying .replace (V + i) n := by
  unfold MapEntry.oldSpare? at h
  unfold MapEntry.law at he
  split at h
  · next q n hstate =>
    rw [hstate] at he
    obtain ⟨-, -, -, hV, -⟩ := he
    cases h
    exact ⟨n, by rw [hstate, Nat.add_sub_cancel' hV]⟩
  · cases h
  · cases h

/-! ### Searches in a map that keeps its law -/

section
variable {V S : Nat} {m : List MapEntry} (hm : MapLaw V S m)
include hm

theorem entryOfSpare_eq {e : MapEntry} (he : e ∈ m) : entryOfSpare m e.spare = some e := by
  cases hf : entryOfSpare m e.spare with
  | none => simpa using List.find?_eq_none.mp hf e he
  | some y =>
    obtain ⟨-, -, hnames, -⟩ := hm
    have hspare : y.spare = e.spare := by simpa using List.find?_some hf
    exact congrArg some (List.inj_on_of_nodup_map hnames.of_append_left (List.mem_of_find?_eq_some hf) he hspare)

theorem copying_unique {e e' : MapEntry} (he : e ∈ m) (he' : e' ∈ m) (hc : e.isCopying = true) (hc' : e'.isCopying = true) :
    e = e' := by
  obtain ⟨-, -, -, hcount⟩ := hm
  by_contra hne
  have hsub : [e, e'] ⊆ m.filter MapEntry.isCopying := by
    simp [List.cons_subset, he, he', hc, hc']
  have hle := ((show [e, e'].Nodup by simp [hne]).subperm hsub).length_le
  rw [← List.countP_eq_length_filter] at hle
  simp only [List.length_cons, List.length_nil] at hle
  omega

theorem entryOfOldSpare_eq {e : MapEntry} (he : e ∈ m) {q n : Nat} (hstate : e.state = .copying .replace q n) :
    entryOfOldSpare m q = some e := by
  cases hf : entryOfOldSpare m q with
  | none => simpa [hstate] using List.find?_eq_none.mp hf e he
  | some y =>
    have hy := List.find?_some hf
    have hc : y.isCopying = true := by
      split at hy
      · next hs => simp [MapEntry.isCopying, hs]
      · cases hy
    exact congrArg some (copying_unique hm (List.mem_of_find?_eq_some hf) he hc (by simp [MapEntry.isCopying, hstate]))

theorem entryOfSpare_oldSpare {e : MapEntry} (he : e ∈ m) {q n : Nat} (hstate : e.state = .copying .replace q n) :
    entryOfSpare m (q - V) = none :=
  List.find?_eq_none.mpr fun y hy => by
    simpa using spare_ne_oldSpare hm hy he (show e.oldSpare? V = some (q - V) by simp [MapEntry.oldSpare?, hstate])

theorem findEntry_of_mem {e : MapEntry} (he : e ∈ m) : findEntry m e.region = some e :=
  (findEntry_eq_some_iff hm.1).mpr ⟨he, rfl⟩

end

theorem namedBy_spare {V S : Nat} {m : List MapEntry} (h : MapLaw V S m) {e : MapEntry} (he : e ∈ m) :
    namedBy V m e.spare = some (e.region, false) := by
  rw [namedBy, entryOfSpare_eq h he]

theorem namedBy_oldSpare {V S : Nat} {m : List MapEntry} (h : MapLaw V S m) {e : MapEntry} (he : e ∈ m) {i : Nat}
    (hold : e.oldSpare? V = some i) : namedBy V m i = some (e.region, true) := by
  obtain ⟨n, hstate⟩ := oldSpare_eq_some (h.2.1 e he) hold
  have hnone := entryOfSpare_oldSpare h he hstate
  rw [Nat.add_sub_cancel_left] at hnone
  rw [namedBy, hnone]
  simp only [entryOfOldSpare_eq h he hstate, Option.map_some]

/-- Settles O12: each reply is the command's own byte list; the map's law says who names an IN_USE spare. -/
theorem repairReadsReply : Obligations.RepairReadsReply := by
  unfold Obligations.RepairReadsReply
  intro entryBytes
  have hbytes (count position : Nat) (e : MapEntry) : mapEntryBytes count position e = entryBytes count position e := by
    obtain ⟨region, spare, state, poisoned, origin, replacements⟩ := e
    rcases state with _ | ⟨kind, source, cursor⟩
    · cases origin <;> rfl
    · cases kind <;> cases origin <;> rfl
  refine ⟨fun p s hreset => (State.unlessHeld_of_high hreset _).trans ?_, fun pre post e r s hreset hm he hpre =>
    (State.unlessHeld_of_high hreset _).trans ?_, fun r s hreset hne => (State.unlessHeld_of_high hreset _).trans ?_,
    fun i s hreset hi => (State.unlessHeld_of_high hreset _).trans ?_, fun i y s hreset hi hy hne =>
    (State.unlessHeld_of_high hreset _).trans ?_, fun i e s hreset hmap hi hused he => ⟨fun hspare =>
    (State.unlessHeld_of_high hreset _).trans ?_, fun hold => (State.unlessHeld_of_high hreset _).trans ?_⟩,
    fun s hreset => State.unlessHeld_of_high hreset _, fun s hreset => (State.unlessHeld_of_high hreset _).trans ?_⟩
  · cases s.map[p.toNat]? with
    | none => rfl
    | some e => simp only [hbytes]
  · rw [hm, findEntry_append he hpre, positionOf_eq he hpre]
    simp only [hbytes]
  · rw [findEntry_eq_none_iff.mpr hne]
  · rw [show s.spare? i.toNat = none from if_neg (by omega)]
  · rw [spare?_of_lt hi, hy]
    simp only [spareBytes, if_neg hne]
  · rw [spare?_of_lt hi, hused]
    simp only [spareBytes, if_pos, ← hspare, namedBy_spare hmap he]
    rfl
  · rw [spare?_of_lt hi, hused]
    simp only [spareBytes, if_pos, namedBy_oldSpare hmap he hold]
    rfl
  · unfold engineStatusBytes
    cases s.engine <;> cases s.lastTest <;> rfl

/-- Settles O36: each command's record is replaced, and its reply is formed from what stood before. -/
theorem recordClearsReply : Obligations.RecordClearsReply := by
  intro s hreset history cause
  have hrun (o : Host.Outcome State Fault Refusal) : s.unlessHeld o = o := State.unlessHeld_of_high hreset o
  have hhistory (h : List BridgeState) : historyBytes h = history h := by
    refine List.map_congr_left fun i _ => ?_
    cases h[i]? with
    | none => rfl
    | some b => cases b <;> rfl
  have hcause (k : Cause) : k.code = cause k := by cases k <;> rfl
  refine ⟨hrun _, hrun _, fun p => ?_, fun k r => ⟨fun h0 h1 => (hrun _).trans ?_, fun hq => (hrun _).trans ?_,
    fun hq hne => (hrun _).trans ?_, fun e hq he => (hrun _).trans ?_, (hrun _).trans ?_⟩, (hrun _).trans ?_⟩
  · intro bytes
    have hbytes : recordBytes s.bridge.record ++ historyBytes s.bridge.history = bytes := by
      rw [hhistory]
      refine congrArg (· ++ history s.bridge.history) ?_
      cases s.bridge.record with
      | none => rfl
      | some r =>
        simp only [recordBytes, hhistory, hcause]
        cases r.line <;> cases r.latestLater <;> rfl
    refine (hrun _).trans ?_
    rw [hbytes]
    split
    · rfl
    · split <;> rfl
  · rw [if_neg h0, if_neg h1]
  · rw [if_pos rfl, if_pos hq]
  · rw [if_pos rfl, if_neg (by omega), show s.suspectOf r.toNat = none from List.find?_eq_none.mpr fun e he => by simpa using hne e he]
  · rw [if_pos rfl, if_neg (by omega), he]
    dsimp only
    split <;> rfl
  · rw [if_neg (by decide), if_pos rfl]
    simp only [List.any_eq_true, decide_eq_true_eq]
    split <;> rfl
  · unfold State.diagBusy
    split <;> rfl

/-- The decay of a pass end, entry by entry. -/
theorem decay_filter (n : BitVec 16) (l : List Suspect) :
    ((l.map (Suspect.decay n)).filter fun e => !e.decayed) =
      l.filterMap fun e =>
        if e.status = .requested ∨ e.status = .stranded then some e
        else
          let e' : Suspect := if e.touched = n then e else { e with count := e.count / 2 }
          if e'.count = 0 ∧ e'.ue = false then none else some e' := by
  induction l with
  | nil => rfl
  | cons e l ih =>
    rw [List.map_cons, List.filterMap_cons, List.filter_cons, ih]
    cases hstatus : e.status <;> by_cases ht : e.touched = n <;> simp [Suspect.decay, Suspect.decayed, hstatus, ht] <;> grind

/-- Settles O33: the notice is at the head of what was handed, so it is taken. -/
theorem noticesTaken : Obligations.NoticesTaken := by
  intro s rest hreset
  refine ⟨fun n hi => (State.unlessHeld_of_high hreset _).trans ?_, fun q hi => (State.unlessHeld_of_high hreset _).trans ?_,
    fun q hi => (State.unlessHeld_of_high hreset _).trans ?_⟩
  · have htake : takeFirst Handed.isPassEnd s.inbox = some ([], .passEnd n, rest) := by rw [hi]; rfl
    rw [htake]
    simp only [List.any_nil, Bool.false_eq_true, if_false, decay_filter]
    rfl
  · have htake : takeFirst Handed.fromEngine s.inbox = some ([], .stranded q, rest) := by rw [hi]; rfl
    rw [htake]
    rfl
  · have htake : takeFirst Handed.fromEngine s.inbox = some ([], .removal q, rest) := by rw [hi]; rfl
    rw [htake]
    rfl

end Sys2Proof.Proofs
end

section
/-! Address translation (R19, R22) and what each map change does to it (R24 to R26, R28). -/

-- Fewer threads at once: each takes a part of the memory that a check of the whole text may use.
set_option Elab.async false

namespace Sys2Proof.Proofs

open Sys2Proof Sys2Proof.Machine

/-! ### Lines -/

theorem regionOf_lineOf {r k : Nat} (h : k < 64) : regionOf (lineOf r k) = r := by
  unfold regionOf lineOf
  omega

theorem indexOf_lineOf {r k : Nat} (h : k < 64) : indexOf (lineOf r k) = k := by
  unfold indexOf lineOf
  omega

theorem lineOf_regionOf (h : Nat) : lineOf (regionOf h) (indexOf h) = h := by
  unfold regionOf indexOf lineOf
  omega

theorem indexOf_lt (h : Nat) : indexOf h < 64 := Nat.mod_lt _ (by decide)

theorem eq_lineOf_iff {h r k : Nat} (hk : k < 64) : h = lineOf r k ↔ regionOf h = r ∧ indexOf h = k := by
  constructor
  · rintro rfl
    exact ⟨regionOf_lineOf hk, indexOf_lineOf hk⟩
  · rintro ⟨rfl, rfl⟩
    exact (lineOf_regionOf h).symm

/-! ### The inverse lookup (R19, R22) -/

/-- The host line's physical line serves it. -/
theorem servedBy_translate {V S : Nat} {m : List MapEntry} (hm : MapLaw V S m) {h : Nat} (hh : h < V * 64) :
    servedBy V m (translate V m h) = some h := by
  have hregion : regionOf h < V := by unfold regionOf; omega
  have hindex := indexOf_lt h
  have hline := lineOf_regionOf h
  unfold Machine.translate
  cases hf : findEntry m (regionOf h) with
  | none =>
    simp only
    unfold servedBy
    rw [regionOf_lineOf hindex, if_pos hregion, hf]
    simp only [hline]
  | some e =>
    obtain ⟨he, hr⟩ := (findEntry_eq_some_iff hm.1).mp hf
    have hspare : entryOfSpare m (V + e.spare - V) = some e := by
      rw [Nat.add_sub_cancel_left]
      exact entryOfSpare_eq hm he
    have hover : ¬ V + e.spare < V := by omega
    have hlaw := hm.2.1 e he
    unfold MapEntry.law at hlaw
    simp only
    cases hs : e.state with
    | live =>
      simp only [spareLine]
      unfold servedBy
      rw [regionOf_lineOf hindex, if_neg hover, hspare]
      simp only [hs, indexOf_lineOf hindex, hr, hline]
    | copying k q c =>
      rw [hs] at hlaw
      simp only
      split
      · next hlt =>
        simp only [spareLine]
        unfold servedBy
        rw [regionOf_lineOf hindex, if_neg hover, hspare]
        simp only [hs, indexOf_lineOf hindex, hr, hline, if_pos hlt]
      · next hge =>
        have hle : c ≤ indexOf h := by omega
        unfold servedBy
        rw [regionOf_lineOf hindex, indexOf_lineOf hindex]
        cases k with
        | retire =>
          obtain ⟨-, -, -, hq, -⟩ := hlaw
          rw [hq, hr, if_pos hregion, hf]
          simp only [hs, if_pos hle, hline]
        | replace =>
          obtain ⟨-, -, -, hV, -⟩ := hlaw
          rw [if_neg (by omega), entryOfSpare_oldSpare hm he hs, entryOfOldSpare_eq hm he hs]
          simp only [hs, if_pos hle, hr, hline]

/-- A physical line that serves a host line is its physical line. -/
theorem translate_of_servedBy {V S : Nat} {m : List MapEntry} (hm : MapLaw V S m) {h p : Nat}
    (hp : servedBy V m p = some h) : translate V m h = p := by
  have hindex := indexOf_lt p
  have hline := lineOf_regionOf p
  unfold servedBy at hp
  split at hp
  · split at hp
    · next hf =>
      cases hp
      unfold Machine.translate
      rw [regionOf_lineOf hindex, hf]
      simp only [hline]
    · next e hf =>
      obtain ⟨he, hr⟩ := (findEntry_eq_some_iff hm.1).mp hf
      split at hp
      · cases hp
      · cases hp
      · next q c hs =>
        split at hp
        · next hle =>
          cases hp
          have hlaw := hm.2.1 e he
          unfold MapEntry.law at hlaw
          rw [hs] at hlaw
          obtain ⟨-, -, -, hq, -⟩ := hlaw
          unfold Machine.translate
          rw [regionOf_lineOf hindex, hf]
          simp only [hs, indexOf_lineOf hindex]
          rw [if_neg (by omega), hq, hr, hline]
        · cases hp
  · next hge =>
    split at hp
    · next e hf =>
      have he := List.mem_of_find?_eq_some hf
      have hspare : e.spare = regionOf p - V := by simpa using List.find?_some hf
      have hphys : lineOf (V + e.spare) (indexOf p) = p := by rw [hspare, Nat.add_sub_cancel' (by omega), hline]
      split at hp
      · next hs =>
        cases hp
        unfold Machine.translate
        rw [regionOf_lineOf hindex, findEntry_of_mem hm he]
        simp only [hs, indexOf_lineOf hindex, spareLine, hphys]
      · next hs =>
        split at hp
        · next hlt =>
          cases hp
          unfold Machine.translate
          rw [regionOf_lineOf hindex, findEntry_of_mem hm he]
          simp only [hs, indexOf_lineOf hindex, spareLine, hphys, if_pos hlt]
        · cases hp
    · split at hp
      · next e hf =>
        have he := List.mem_of_find?_eq_some hf
        have hfound := List.find?_some hf
        split at hp
        · cases hp
        · next k q c hs =>
          split at hp
          · next hle =>
            cases hp
            have hq : q = regionOf p := by
              rw [hs] at hfound
              cases k with
              | retire => cases hfound
              | replace => exact of_decide_eq_true hfound
            unfold Machine.translate
            rw [regionOf_lineOf hindex, findEntry_of_mem hm he]
            simp only [hs, indexOf_lineOf hindex]
            rw [if_neg (by omega), hq, hline]
          · cases hp
      · cases hp

/-- Settles O8: the physical line of a host line serves it, and no other line does. -/
theorem servedByInvertsTranslation : Obligations.ServedByInvertsTranslation := by
  intro V S m h p hm hh _
  constructor
  · rintro rfl
    exact servedBy_translate hm hh
  · exact translate_of_servedBy hm

/-! ### Map changes (R24 to R26, R28) -/

theorem translate_eq {V : Nat} {m : List MapEntry} {h : Nat} {e : MapEntry} (hf : findEntry m (regionOf h) = some e) :
    translate V m h =
      match e.state with
      | .live => spareLine V e.spare (indexOf h)
      | .copying _ q c => if indexOf h < c then spareLine V e.spare (indexOf h) else lineOf q (indexOf h) := by
  unfold Machine.translate
  cases hfound : findEntry m (regionOf h) with
  | none => rw [hfound] at hf; cases hf
  | some y =>
    rw [hfound] at hf
    cases hf
    rfl

/-- Translation depends on the entry found alone. -/
theorem translate_congr {V : Nat} {m m' : List MapEntry} {h : Nat} (hf : findEntry m (regionOf h) = findEntry m' (regionOf h)) :
    translate V m h = translate V m' h := by
  unfold Machine.translate
  rw [hf]

theorem findEntry_insert_self {m : List MapEntry} {e : MapEntry} (hs : Ascending m) (h : findEntry m e.region = none) :
    findEntry (insertEntry e m) e.region = some e := by
  refine (findEntry_eq_some_iff (ascending_insertEntry hs (findEntry_eq_none_iff.mp h))).mpr ⟨?_, rfl⟩
  exact (insertEntry_perm e m).mem_iff.mpr (by simp)

/-- An update moves the lines of its own region only. -/
theorem translate_updateEntry_ne {V : Nat} {m : List MapEntry} {q h : Nat} {f : MapEntry → MapEntry}
    (hf : ∀ e, (f e).region = e.region) (hq : regionOf h ≠ q) : translate V (updateEntry m q f) h = translate V m h := by
  refine translate_congr ?_
  rw [findEntry_updateEntry hf]
  cases hfound : findEntry m (regionOf h) with
  | none => rfl
  | some e =>
    have he : e.region = regionOf h := by simpa using List.find?_some hfound
    simp [he, hq]

theorem findEntry_update_self {V S : Nat} {m : List MapEntry} (hm : MapLaw V S m) {e : MapEntry} (he : e ∈ m)
    {f : MapEntry → MapEntry} (hf : ∀ e, (f e).region = e.region) : findEntry (updateEntry m e.region f) e.region = some (f e) := by
  rw [findEntry_updateEntry hf, findEntry_of_mem hm he]
  simp

/-- Settles O9: translation reads the one entry of the line's region, and each change is to one entry. -/
theorem mapChangesKeepTranslation : Obligations.MapChangesKeepTranslation := by
  intro V S m h hm
  refine ⟨fun r i o hnone => ?_, fun e j he hlive => ?_, fun e k q n b he hs hn => ?_, fun e k q b he hs hne => ?_,
    fun e k q b he hs heq => ?_, fun r i hnone => ?_⟩
  · by_cases hr : regionOf h = r
    · subst hr
      have hself : findEntry (insertEntry (retireEntry (regionOf h) i o) m) (regionOf h) = _ := findEntry_insert_self hm.1 hnone
      rw [translate_eq hself]
      unfold Machine.translate
      rw [hnone]
      rfl
    · exact translate_congr (findEntry_insertEntry (Ne.symm hr))
  · by_cases hr : regionOf h = e.region
    · have hself := findEntry_update_self hm he (f := convertEntry V j) fun _ => rfl
      rw [← hr] at hself
      rw [← hr, translate_eq hself, translate_eq (hr ▸ findEntry_of_mem hm he), hlive]
      rfl
    · exact translate_updateEntry_ne (fun _ => rfl) hr
  · by_cases hr : regionOf h = e.region
    · have hself := findEntry_update_self hm he (f := advanceEntry b) (by simp)
      have hfound := findEntry_of_mem hm he
      rw [← hr] at hself hfound
      rw [← hr, translate_eq hself, translate_eq hfound, advanceEntry_of_copying hs, hs]
      simp only [eq_lineOf_iff (show n < 64 by omega), true_and]
      by_cases hi : indexOf h = n
      · rw [if_pos (by omega), if_pos hi, hi]
      · rw [if_neg hi]
        by_cases hlt : indexOf h < n
        · rw [if_pos (by omega), if_pos hlt]
        · rw [if_neg (by omega), if_neg hlt]
    · rw [translate_updateEntry_ne (by simp) hr, if_neg]
      rw [eq_lineOf_iff (by omega)]
      exact fun h => hr h.1
  · by_cases hr : regionOf h = e.region
    · have hself := findEntry_update_self hm he (f := completeEntry b) (by simp)
      have hfound := findEntry_of_mem hm he
      rw [← hr] at hself hfound
      have hi : indexOf h < 63 := by
        have hlt := indexOf_lt h
        have : indexOf h ≠ 63 := fun hi => hne ((eq_lineOf_iff (by decide)).mpr ⟨hr, hi⟩)
        omega
      rw [← hr, translate_eq hself, translate_eq hfound, completeEntry_of_copying hs, hs]
      simp only [if_pos hi]
    · exact translate_updateEntry_ne (by simp) hr
  · obtain ⟨hr, hi⟩ := (eq_lineOf_iff (by decide)).mp heq
    have hself := findEntry_update_self hm he (f := completeEntry b) (by simp)
    rw [← hr] at hself
    rw [← hr, translate_eq hself, completeEntry_of_copying hs, hi]
  · by_cases hr : regionOf h = r
    · subst hr
      have hself : findEntry (insertEntry (loadedEntry (regionOf h) i) m) (regionOf h) = _ := findEntry_insert_self hm.1 hnone
      rw [translate_eq hself, if_pos rfl]
      rfl
    · rw [if_neg hr]
      exact translate_congr (findEntry_insertEntry (Ne.symm hr))

end Sys2Proof.Proofs
end

section
/-! The management frames (R174, R175) and the transactions of the bus that carry them (R173). -/

-- Fewer threads at once: each takes a part of the memory that a check of the whole text may use.
set_option Elab.async false

namespace Sys2Proof.Proofs

open Sys2Proof Sys2Proof.Machine

variable {s : State}

/-! ### The check byte (R174, R175) -/

theorem sum_append (l : List Byte) (a : Byte) : (l ++ [a]).foldr (· + ·) 0 = l.foldr (· + ·) 0 + a := by
  induction l with
  | nil => simp
  | cons b l ih => rw [List.cons_append, List.foldr_cons, List.foldr_cons, ih, BitVec.add_assoc]

theorem sum_checkByte (body : List Byte) : (body ++ [checkByte body]).foldr (· + ·) 0 = 0 := by
  rw [sum_append, checkByte]
  exact BitVec.add_right_neg _

/-! ### Round trip -/

theorem word4_bytes4 (v : BitVec 32) :
    word4 (v.extractLsb' 0 8) (v.extractLsb' 8 8) (v.extractLsb' 16 8) (v.extractLsb' 24 8) = v := by
  unfold word4
  rw [BitVec.extractLsb'_append_extractLsb'_eq_extractLsb' (by rfl), BitVec.extractLsb'_append_extractLsb'_eq_extractLsb' (by rfl),
    BitVec.extractLsb'_append_extractLsb'_eq_extractLsb' (by rfl)]
  exact BitVec.extractLsb'_eq_self

/-- A command has the number of parameter bytes of its row (R174). -/
theorem paramBytes_frameParts {c : Instr} {code : Byte} {params : List Byte} (h : frameParts c = some (code, params)) :
    paramBytes code = some params.length ∧ params.length ≤ 5 := by
  cases c <;> cases h <;> exact ⟨rfl, Nat.le_of_ble_eq_true rfl⟩

/-- A command's code and parameter bytes present it (R174): the operands of one byte as they are, those of four as `word4_bytes4` says. -/
theorem commandOf_frameParts {c : Instr} {code : Byte} {params : List Byte} (h : frameParts c = some (code, params)) :
    commandOf code params = some c := by
  cases c
  case configSet id v => cases h; exact congrArg (fun w => some (Instr.configSet id w)) (word4_bytes4 v)
  case mapLoad r i => cases h; exact congrArg (fun w => some (Instr.mapLoad w i)) (word4_bytes4 r)
  case mapFind r => cases h; exact congrArg (fun w => some (Instr.mapFind w)) (word4_bytes4 r)
  case retire r => cases h; exact congrArg (fun w => some (Instr.retire w)) (word4_bytes4 r)
  case suspectClear x r => cases h; exact congrArg (fun w => some (Instr.suspectClear x w)) (word4_bytes4 r)
  case diagFetch p => cases h; exact congrArg (fun w => some (Instr.diagFetch w)) (word4_bytes4 p)
  case diagStore p x => cases h; exact congrArg (fun w => some (Instr.diagStore w x)) (word4_bytes4 p)
  all_goals cases h <;> rfl

/-- A frame of a row's code and as many parameter bytes as the row has passes every check. -/
theorem decodeFrame_frameOf {c : Instr} {code : Byte} {params : List Byte} (hc : commandOf code params = some c)
    (hp : paramBytes code = some params.length) (hlen : params.length ≤ 5) : decodeFrame (frameOf code params) = some c := by
  have hn : (BitVec.ofNat 8 params.length).toNat = params.length := by
    rw [BitVec.toNat_ofNat]
    omega
  have hsum := sum_checkByte (code :: BitVec.ofNat 8 params.length :: params)
  have hfault : frameFault (frameOf code params) = none := by
    unfold frameOf frameFault
    simp only [List.cons_append, hp, hn, List.length_append, List.length_singleton, List.append_eq_nil_iff]
    rw [if_neg (by simp; omega), if_neg]
    · simp
    · simpa [byteSum] using hsum
  unfold decodeFrame
  rw [hfault]
  unfold frameOf
  simp only [List.cons_append, List.drop_succ_cons, List.drop_zero, List.dropLast_concat, hc]

theorem length_frameOf (code : Byte) (params : List Byte) : (frameOf code params).length = params.length + 3 := by
  simp [frameOf]

theorem encode_roundTrip {c : Instr} (h : (frameParts c).isSome = true) :
    ∃ f, encodeFrame c = some f ∧ f.length ≤ 23 ∧ f.foldr (· + ·) 0 = 0 ∧ decodeFrame f = some c := by
  obtain ⟨⟨code, params⟩, hparts⟩ := Option.isSome_iff_exists.mp h
  have hc := commandOf_frameParts hparts
  obtain ⟨hp, hlen⟩ := paramBytes_frameParts hparts
  refine ⟨frameOf code params, by rw [encodeFrame, hparts]; rfl, ?_, sum_checkByte _, decodeFrame_frameOf hc hp hlen⟩
  rw [length_frameOf]
  omega

theorem decodeFrame_isSome (b : Byte) (bytes : List Byte) : ∃ c, decodeFrame (b :: bytes) = some c := by
  unfold decodeFrame
  dsimp only
  split
  · exact ⟨_, rfl⟩
  · split <;> exact ⟨_, rfl⟩

/-! ### Transactions (R173) -/

theorem transactionsAfter_bytes (bs bytes : List Byte) (xs : List BusSignal) :
    transactionsAfter (some bs) (bytes.map BusSignal.byte ++ xs) = transactionsAfter (some (bs ++ bytes)) xs := by
  induction bytes generalizing bs with
  | nil => simp
  | cons b bytes ih =>
    rw [List.map_cons, List.cons_append, transactionsAfter, ih, List.append_assoc]
    rfl

theorem transactionOf_addressByte (a : BitVec 7) (read : Bool) (bytes : List Byte) :
    transactionOf (addressByte a read :: bytes) = some ⟨a, read, bytes⟩ := by
  have ha : (addressByte a read).extractLsb' 1 7 = a := by
    revert a read
    decide
  have hr : (addressByte a read).getLsbD 0 = read := by
    revert a read
    decide
  rw [transactionOf, ha, hr]

/-- What is sent so far leaves these bytes of the transaction in progress. -/
theorem transactions_sent (a : BitVec 7) (read : Bool) (bytes : List Byte) {cut : List BusSignal}
    (hcut : cut = [] ∨ cut = [.partByte]) (xs : List BusSignal) :
    transactions ((.start :: (addressByte a read :: bytes).map BusSignal.byte ++ cut) ++ xs) =
      transactionsAfter (some (addressByte a read :: bytes)) xs := by
  rw [transactions, List.cons_append, List.cons_append, transactionsAfter, List.append_assoc, transactionsAfter_bytes, List.nil_append]
  rcases hcut with rfl | rfl <;> rfl

/-! ### What the port answers (R173) -/

/-- The reply frame, and FFh beyond its check byte. -/
theorem busRead_eq (r : Reply) (n : Nat) : r.busRead n = (r.bytes ++ List.replicate n 0xFF).take n := by
  refine List.ext_getElem (by simp [Reply.busRead]) fun i h1 h2 => ?_
  have hn : i < n := by simpa [Reply.busRead] using h1
  simp only [Reply.busRead, List.getElem_map, List.getElem_range, List.getElem_take, List.getElem_append, List.getElem_replicate]
  split
  · next hi =>
    obtain ⟨hlt, rfl⟩ := List.getElem?_eq_some_iff.mp hi
    rw [dif_pos hlt]
  · next hi => rw [dif_neg (by simpa using hi)]

theorem busAnswer_own (h : s.resetLow = false) (read : Bool) (bytes : List Byte) :
    s.busAnswer ⟨s.mgmt.address, read, bytes⟩ =
      if read then .returned (s.mgmt.reply.busRead bytes.length)
      else match decodeFrame bytes with
        | some c => .command c
        | none => .nothing := by
  refine (if_neg (by simp [h])).trans ?_
  cases read <;> cases decodeFrame bytes <;> rfl

theorem busAnswer_other {a : BitVec 7} (h : s.resetLow = true ∨ a ≠ s.mgmt.address) (read : Bool) (bytes : List Byte) :
    s.busAnswer ⟨a, read, bytes⟩ = .notAcknowledged := by
  unfold State.busAnswer
  rcases h with h | h <;> simp [h]

/-- The command a transaction presents. -/
theorem command_busAnswer (h : s.resetLow = false) (x : BusTransaction) :
    (s.busAnswer x).command? = if x.address = s.mgmt.address ∧ x.read = false then decodeFrame x.bytes else none := by
  obtain ⟨a, read, bytes⟩ := x
  by_cases ha : a = s.mgmt.address
  · subst ha
    rw [busAnswer_own h]
    cases read <;> cases decodeFrame bytes <;> simp [BusAnswer.command?]
  · rw [busAnswer_other (.inr ha)]
    simp [BusAnswer.command?, ha]

/-! ### The obligations -/

/-- Settles O3: code and parameters are those of the command's row, and the transactions are read off byte by byte. -/
theorem frameRoundTrip : Obligations.FrameRoundTrip := by
  refine ⟨fun c h => encode_roundTrip h, fun a read bytes cut rest hcut => ?_, fun s a read bytes h => busAnswer_other h read bytes,
    fun s hreset => ⟨?_, fun b bytes => ?_, fun bytes => ⟨checkByte ([s.mgmt.reply.status.code, byte s.mgmt.reply.result.length] ++
      s.mgmt.reply.result), sum_checkByte _, ?_⟩, fun signals => ?_⟩⟩
  · refine ⟨(transactions_sent a read bytes hcut _).trans ?_, (transactions_sent a read bytes hcut _).trans ?_⟩
    · rw [transactionsAfter, transactionOf_addressByte]
      rfl
    · rw [transactionsAfter, transactionOf_addressByte]
      rfl
  · exact (busAnswer_own hreset _ _).trans rfl
  · obtain ⟨c, hc⟩ := decodeFrame_isSome b bytes
    refine ⟨c, hc, (busAnswer_own hreset _ _).trans ?_⟩
    rw [hc]
    rfl
  · refine (busAnswer_own hreset _ _).trans ?_
    rw [if_pos rfl, busRead_eq]
    rfl
  · unfold State.takeSignals
    rw [List.filterMap_congr fun x _ => command_busAnswer hreset x]
    rfl

/-- The checks of R174 on a frame of the right shape: first the check byte, then the code, then the length. -/
theorem frameFault_of_shape {code n : Byte} {rest : List Byte} (hlen : rest.length = n.toNat + 1) (hn : n.toNat ≤ 20) :
    frameFault (code :: n :: rest) =
      if byteSum (code :: n :: rest) ≠ 0 then some .badFrame
      else match paramBytes code with
        | none => some .unknown
        | some k => if n.toNat = k then none else some .badParam := by
  have hshape : ¬(rest = [] ∨ 20 < n.toNat ∨ rest.length ≠ n.toNat + 1) := by
    rintro (rfl | h | h)
    · simp at hlen
    · omega
    · exact h hlen
  exact if_neg hshape

theorem frameFault_of_badShape {code n : Byte} {rest : List Byte}
    (h : rest.length ≠ n.toNat + 1 ∨ 20 < n.toNat ∨ byteSum (code :: n :: rest) ≠ 0) :
    frameFault (code :: n :: rest) = some .badFrame := by
  by_cases hlen : rest.length = n.toNat + 1
  · by_cases hn : n.toNat ≤ 20
    · rw [frameFault_of_shape hlen hn, if_pos ((h.resolve_left (absurd hlen)).resolve_left (by omega))]
    · exact if_pos (.inr (.inl (by omega)))
  · exact if_pos (.inr (.inr hlen))

theorem exec_frameRejected_of_fault (hreset : s.resetLow = false) {frame : List Byte} (hne : frame ≠ []) {st : Status}
    (h : frameFault frame = some st) : exec (.frameRejected frame) s = .next (s.reply st []) := by
  refine (State.unlessHeld_of_high hreset _).trans ?_
  rw [if_neg hne, h]

/-- Settles O4: `frameFault` makes the checks in the order of R174, and a START of another mode passes them all. -/
theorem rejectedFrameReplies : Obligations.RejectedFrameReplies := by
  intro code n rest s hreset frame
  have hfault (hlen : rest.length = n.toNat + 1) (hn : n.toNat ≤ 20) (hsum : byteSum frame = 0) :=
    (frameFault_of_shape (code := code) hlen hn).trans (if_neg (not_not.mpr hsum))
  refine ⟨fun h => exec_frameRejected_of_fault hreset (List.cons_ne_nil _ _) (frameFault_of_badShape h),
    fun hlen hn hsum => ⟨fun hp => ?_, fun k hp hk => ?_, fun mode chk hcode hone hrest hkeep hformat => ?_⟩,
    exec_frameRejected_of_fault hreset (List.cons_ne_nil _ _) rfl⟩
  · refine exec_frameRejected_of_fault hreset (List.cons_ne_nil _ _) ((hfault hlen hn hsum).trans ?_)
    rw [hp]
  · refine exec_frameRejected_of_fault hreset (List.cons_ne_nil _ _) ((hfault hlen hn hsum).trans ?_)
    rw [hp]
    exact if_neg (Ne.symm hk)
  · have hnone : frameFault frame = none := by
      refine (hfault hlen hn hsum).trans ?_
      rw [hcode, hone]
      rfl
    have hbad : badStartMode frame = true := by
      simp [frame, hrest, badStartMode, hcode, show ¬mode = 0#8 from hkeep, show ¬mode = 1#8 from hformat]
    refine (State.unlessHeld_of_high hreset _).trans ?_
    rw [if_neg (List.cons_ne_nil _ _), hnone]
    simp only [hbad, if_true]
    by_cases hb : s.bridge.state = .standby <;> simp [hb]

end Sys2Proof.Proofs
end

section
/-! The acceptance of host requests (R157, R159), and memory answers that complete no operation (R166, R168). -/

-- Fewer threads at once: each takes a part of the memory that a check of the whole text may use.
set_option Elab.async false

namespace Sys2Proof.Proofs

open Sys2Proof Sys2Proof.Machine

variable {s : State}

/-! ### Acceptance rows 1 to 6 (R157) -/

theorem exec_command (h : s.resetLow = false) (req : HostReq) (tag : Fin 32) (line : BitVec 32) :
    exec (req.command tag line) s = .next (s.accept tag line req) := by
  cases req <;> exact State.unlessHeld_of_high h _

theorem hostLine_eq (line : BitVec 32) : hostLine line = line.toNat % 2 ^ 28 :=
  BitVec.toNat_setWidth 28 line

theorem tagBusy_eq_false_iff {tag : Fin 32} : s.tagBusy tag = false ↔ tag ∉ s.link.busy := by
  simp [State.tagBusy]

/-- An answer at acceptance is never CORRECTED or POISONED, so no counter of responses rises. -/
theorem answerNow_eq (tag : Fin 32) (req : HostReq) {st : RespStatus} (h : st = .failed ∨ st = .notReady ∨ st = .range) :
    s.answerNow tag req st =
      (s.responded tag st (match req with | .rd => some (Vector.replicate 64 0) | _ => none)).count req.counter := by
  rcases h with rfl | rfl | rfl <;> cases req <;> rfl

/-- A request on a FREE tag of a port that is UP meets the checks of the bridge state. -/
theorem accept_of_tagFree {tag : Fin 32} (hq : s.link.quiesce = false) (hb : tag ∉ s.link.busy) (line : BitVec 32) (req : HostReq) :
    s.accept tag line req =
      if s.bridge.state = .contain then s.answerNow tag req .failed
      else if s.bridge.state = .standby || s.bridge.state = .format then s.answerNow tag req .notReady
      else if s.V * 64 ≤ hostLine line then s.answerNow tag req .range
      else s.handOn tag req (hostLine line) := by
  unfold State.accept
  rw [if_neg (by simp [hq]), if_neg (by simpa using tagBusy_eq_false_iff.mpr hb)]

/-- Settles O23: the checks of `accept`, in their order. -/
theorem acceptanceChecks : Obligations.AcceptanceChecks := by
  intro req tag line s hreset answer
  have hexec := exec_command hreset req tag line
  refine ⟨fun hq => ?_, fun hq => ⟨fun hbusy => ?_, fun hfree => ⟨fun hb => ?_, fun hb => ?_, fun hb hline => ?_⟩⟩,
    fun kind h1 h2 h3 => (State.unlessHeld_of_high hreset _).trans ?_⟩
  · rw [hexec]
    exact congrArg _ (if_pos hq)
  · rw [hexec]
    unfold State.accept
    rw [if_neg (by simp [hq]), if_pos (by simpa [State.tagBusy] using hbusy)]
  · rw [hexec, accept_of_tagFree hq hfree, if_pos hb]
    exact congrArg _ (answerNow_eq tag req (.inl rfl))
  · rw [hexec, accept_of_tagFree hq hfree, if_neg (by rcases hb with hb | hb <;> simp [hb]), if_pos (by simpa using hb)]
    exact congrArg _ (answerNow_eq tag req (.inr (.inl rfl)))
  · have hserv := State.inService_of hb
    rw [hexec, accept_of_tagFree hq hfree, if_neg hserv.1, if_neg (by rcases hb with hb | hb <;> simp [hb]),
      if_pos (by rwa [hostLine_eq])]
    exact congrArg _ (answerNow_eq tag req (.inr (.inr rfl)))
  · have hkind : isRequestKind kind = false := by
      simp only [isRequestKind, h1, h2, h3, decide_false, Bool.or_false]
    rw [if_neg (by simp [hkind])]
    by_cases hq : s.link.quiesce = true
    · rw [if_pos hq, if_pos hq]
    · rw [if_neg hq, if_neg hq]

/-! ### An accepted request (R65, R79, R157 row 7) -/

/-- The record of a request that waits for its hold (R79). -/
def waitingOp (tag : Fin 32) (req : HostReq) (h : Nat) : HostOp :=
  { tag, req, line := h, phys := none, phase := .waitHold, attempts := 0, responseSent := false, orphan := false }

theorem accept_of_accepts {tag : Fin 32} {line : BitVec 32} (h : s.Accepts tag (line.toNat % 2 ^ 28)) (req : HostReq) :
    s.accept tag line req = s.handOn tag req (line.toNat % 2 ^ 28) := by
  obtain ⟨-, hq, hbusy, -, hb, hline⟩ := h
  rw [accept_of_tagFree hq hbusy, if_neg (State.inService_of hb).1, if_neg (by rcases hb with hb | hb <;> simp [hb]), hostLine_eq,
    if_neg (by omega)]

theorem opOf_handed {op : HostOp} (h : ∀ o ∈ s.ops, o.tag ≠ op.tag) (active : Bool) : (s.handed op active).opOf op.tag = some op := by
  simp only [State.opOf, State.handed, List.find?_append]
  rw [List.find?_eq_none.mpr fun o ho => by simpa using h o ho]
  simp

/-- The record just made is the one that a new record of its tag replaces. -/
theorem putOp_handed {op new : HostOp} (h : ∀ o ∈ s.ops, o.tag ≠ op.tag) (htag : new.tag = op.tag) (hline : new.line = op.line)
    (hreq : new.req = op.req) (active : Bool) : (s.handed op active).putOp new = s.handed new active := by
  have hold : s.ops.map (fun o => if o.tag = op.tag then new else o) = s.ops := by
    conv_rhs => rw [← List.map_id s.ops]
    exact List.map_congr_left fun o ho => if_neg (h o ho)
  simp only [State.putOp, State.handed, State.setOps, List.map_append, htag, hline, hreq, hold, List.map_cons, List.map_nil, if_true]

theorem V_handed (op : HostOp) (active : Bool) : (s.handed op active).V = s.V := rfl

/-- A request handed on with its key free, and with no PHYS hold on its line, becomes what its owner's first act makes of it. -/
theorem handOn_eq {tag : Fin 32} {req : HostReq} {h : Nat} {t : State} (hops : ∀ o ∈ s.ops, o.tag ≠ tag)
    (hfree : s.KeyFree (.host h)) (hphys : s.KeyFree (.phys (Machine.translate s.V s.map h)))
    (ht : (s.handed (waitingOp tag req h) true).beginHost (waitingOp tag req h) = t) (hn : t.nextOwner (.host h) = none) :
    s.handOn tag req h = t := by
  refine State.requestHold_of_keyFree (s := ((s.count req.counter).setLink { s.link with busy := s.link.busy ++ [tag] }).setOps
    (s.ops ++ [waitingOp tag req h])) hfree (State.heldBack_of_keyFree fun p hp e he => ?_) ?_ hn
  · obtain rfl : p = Machine.translate s.V s.map h := List.mem_singleton.mp hp
    rcases List.mem_append.mp he with he | he
    · exact hphys e he
    · rw [List.mem_singleton.mp he]
      exact Key.noConfusion
  · change (s.handed (waitingOp tag req h) true).begin (.host tag) = (t, [])
    unfold State.begin
    have hop : (s.handed (waitingOp tag req h) true).opOf tag = some (waitingOp tag req h) := opOf_handed hops true
    simp only [hop, ht]

section
variable {tag : Fin 32} {h : Nat} {t : Fin 64} (hops : ∀ o ∈ s.ops, o.tag ≠ tag) (ht : s.CanIssue t)
include hops ht

theorem beginHost_read {req : HostReq}
    (hreq : req = .rd ∨ ∃ d m, req = .wrp d m ∧ m ≠ 0 ∧ m ≠ BitVec.allOnes 64) :
    (s.handed (waitingOp tag req h) true).beginHost (waitingOp tag req h) =
      (s.handed ⟨tag, req, h, some (Machine.translate s.V s.map h), .read, 1, false, false⟩ true).issued t (.host tag) .mrd
        (Machine.translate s.V s.map h) := by
  have hput := putOp_handed (s := s) (op := waitingOp tag req h)
    (new := ⟨tag, req, h, some (Machine.translate s.V s.map h), .read, 1, false, false⟩) hops rfl rfl rfl true
  have hissue := State.issue_of_canIssue (s := s.handed
    ⟨tag, req, h, some (Machine.translate s.V s.map h), .read, 1, false, false⟩ true) (ht.of rfl rfl)
    ⟨.host tag, .mrd, Machine.translate s.V s.map h⟩
  rw [← hput] at hissue
  rcases hreq with rfl | ⟨d, m, rfl, h0, h1⟩
  · rw [← hput]
    exact hissue
  · rw [← hput]
    unfold State.beginHost
    simp only [waitingOp, h0, h1, if_false]
    exact hissue

theorem beginHost_write {req : HostReq} {d : Data} (hreq : req = .wr d ∨ req = .wrp d (BitVec.allOnes 64)) :
    (s.handed (waitingOp tag req h) true).beginHost (waitingOp tag req h) =
      (s.handed ⟨tag, req, h, some (Machine.translate s.V s.map h), .dataWrite, 0, false, false⟩ true).issued t (.host tag)
        (.mwr (encode d)) (Machine.translate s.V s.map h) := by
  have hput := putOp_handed (s := s) (op := waitingOp tag req h)
    (new := ⟨tag, req, h, some (Machine.translate s.V s.map h), .dataWrite, 0, false, false⟩) hops rfl rfl rfl true
  have hissue := State.issue_of_canIssue (s := s.handed
    ⟨tag, req, h, some (Machine.translate s.V s.map h), .dataWrite, 0, false, false⟩ true) (ht.of rfl rfl)
    ⟨.host tag, .mwr (encode d), Machine.translate s.V s.map h⟩
  rw [← hput] at hissue ⊢
  rcases hreq with rfl | rfl
  · exact hissue
  · unfold State.beginHost
    simp only [waitingOp, if_true]
    exact hissue

end

/-- A WRP that selects no byte is answered OK, and leaves nothing of itself but the response and the count. -/
theorem beginHost_noByte {tag : Fin 32} {h : Nat} (d : Data) (hops : ∀ o ∈ s.ops, o.tag ≠ tag) (hbusy : tag ∉ s.link.busy)
    (hent : ∀ e ∈ s.order.entries, e.owner ≠ .host tag) :
    (s.handed (waitingOp tag (.wrp d 0) h) true).beginHost (waitingOp tag (.wrp d 0) h) =
      { s with
        order := { s.order with nextArrival := s.order.nextArrival + 1 }
        hostOut := s.hostOut ++ [⟨tag, .ok, none⟩]
        ev := { s.ev with counters := s.ev.counters.bumpHostPartials } } := by
  have hne : (0 : BitVec 64) ≠ BitVec.allOnes 64 := by decide
  have hb : (s.link.busy ++ [tag]).filter (fun t => t ≠ tag) = s.link.busy := by
    have hne : ∀ x ∈ s.link.busy, x ≠ tag := fun x hx hxt => hbusy (hxt ▸ hx)
    rw [List.filter_append, List.filter_eq_self.mpr fun x hx => decide_eq_true (hne x hx)]
    simp
  have ho (op : HostOp) (hop : op.tag = tag) : (s.ops ++ [op]).filter (fun o => o.tag ≠ tag) = s.ops := by
    rw [List.filter_append, List.filter_eq_self.mpr fun o ho => decide_eq_true (hops o ho)]
    simp [hop]
  have he (e : Hold) (hown : e.owner = .host tag) :
      (s.order.entries ++ [e]).filter (fun e => e.owner ≠ .host tag) = s.order.entries := by
    rw [List.filter_append, List.filter_eq_self.mpr fun e he => decide_eq_true (hent e he)]
    simp [hown]
  unfold State.beginHost
  simp only [waitingOp, hne, if_false, if_true]
  rw [State.endHostOp_of_not_orphan rfl]
  simp only [State.hostDone, LineOrder.without, State.respond, State.send, State.setHostOut, State.handed, LineOrder.append,
    Bool.false_eq_true, if_false, hb, ho ⟨tag, .wrp d 0, h, none, .waitHold, 0, false, false⟩ rfl,
    he ⟨.host h, .host tag, true, s.order.nextArrival, false⟩ rfl]
  rfl

/-- Settles O24: the hold becomes ACTIVE at once and the request begins. -/
theorem acceptedRequestIssues : Obligations.AcceptedRequestIssues := by
  intro tag line s t h p hacc hfree hphys hcan reads writes
  have hexec := exec_command hacc.1 (tag := tag) (line := line)
  have hops : ∀ o ∈ s.ops, o.tag ≠ tag := hacc.2.2.2.1
  have hand {req : HostReq} {u : State} (hu : (s.handed (waitingOp tag req h) true).beginHost (waitingOp tag req h) = u)
      (hn : u.nextOwner (.host h) = none) : exec (req.command tag line) s = .next u := by
    rw [hexec, accept_of_accepts hacc]
    exact congrArg _ (handOn_eq hops hfree hphys hu hn)
  have hread {req : HostReq} (hreq : req = .rd ∨ ∃ d m, req = .wrp d m ∧ m ≠ 0 ∧ m ≠ BitVec.allOnes 64) :
      exec (req.command tag line) s = .next (reads req) :=
    hand (beginHost_read hops hcan hreq) (State.nextOwner_of_active (List.mem_append_right _ (List.mem_singleton_self _)) rfl rfl)
  have hwrite {req : HostReq} {d : Data} (hreq : req = .wr d ∨ req = .wrp d (BitVec.allOnes 64)) :
      exec (req.command tag line) s = .next (writes req d) :=
    hand (beginHost_write hops hcan hreq) (State.nextOwner_of_active (List.mem_append_right _ (List.mem_singleton_self _)) rfl rfl)
  exact ⟨hread (.inl rfl), fun d => hwrite (.inl rfl), fun d => hwrite (.inr rfl),
    fun d m h0 h1 => hread (.inr ⟨d, m, rfl, h0, h1⟩),
    fun d hent => hand (req := .wrp d 0) (beginHost_noByte d hops hacc.2.2.1 hent) (State.nextOwner_of_keyFree hfree)⟩

/-! ### Answers that complete no operation (R166, R168, R170) -/

/-- An answer of another generation, or of another kind than the operation under its tag, is a late answer. -/
theorem exec_of_noOperation {gen : Byte} {g : Fin 64} {w : Codeword} {c : Instr} (hreset : s.resetLow = false)
    (h : (c = .readData gen g w ∧ ∀ a ∈ s.mem.active, a.tag = g → gen ≠ s.mem.generation ∨ a.kind ≠ .mrd) ∨
      (c = .writeAck gen g ∧ ∀ a ∈ s.mem.active, a.tag = g → gen ≠ s.mem.generation ∨ a.kind = .mrd)) :
    exec c s = .next (s.lateAnswer gen g) := by
  have hfound {a : ActiveOp} (ha : s.activeOf g = some a) : a ∈ s.mem.active ∧ a.tag = g :=
    ⟨List.mem_of_find?_eq_some ha, by simpa using List.find?_some ha⟩
  rcases h with ⟨rfl, h⟩ | ⟨rfl, h⟩ <;> refine (State.unlessHeld_of_high hreset _).trans ?_ <;> cases ha : s.activeOf g with
  | none => rfl
  | some a =>
    obtain ⟨hmem, htag⟩ := hfound ha
    refine if_neg ?_
    have := h a hmem htag
    simp only [Bool.and_eq_true, decide_eq_true_eq, not_and]
    tauto

theorem length_filter_ne_of_mem {q : List (Fin 64)} {g : Fin 64} (hn : q.Nodup) (hg : g ∈ q) :
    (q.filter fun x => x ≠ g).length = q.length - 1 := by
  rw [← List.length_erase_of_mem hg, hn.erase_eq_filter]
  exact congrArg _ (List.filter_congr fun x _ => decide_not)

/-- Settles O53: `lateAnswer` by the length of the quarantine before and after. -/
theorem lateAnswerDiscarded : Obligations.LateAnswerDiscarded := by
  intro s gen g w c hreset h u freed
  have hexec := exec_of_noOperation hreset h
  refine ⟨fun hnot => ?_, fun hgen hg hnodup => ?_⟩
  · rw [hexec]
    refine congrArg _ (if_neg ?_)
    simp only [Bool.and_eq_true, decide_eq_true_eq, List.contains_iff_mem, not_and]
    exact fun hgen hg => hnot.elim (absurd hgen) (absurd hg)
  have hlate : s.lateAnswer gen g =
      if 28 ≤ s.mem.quarantine.length && freed.mem.quarantine.length < 28 && s.bridge.state ≠ .contain then freed.issueDeferred
      else freed :=
    if_pos (by simp only [Bool.and_eq_true, decide_eq_true_eq, List.contains_iff_mem]; exact ⟨hgen, hg⟩)
  have hlen : freed.mem.quarantine.length = s.mem.quarantine.length - 1 := length_filter_ne_of_mem hnodup hg
  refine ⟨fun hno => ?_, fun r t hfull hdef hcan => ?_⟩
  · rw [hexec, hlate, if_neg]
    simp only [hlen, Bool.and_eq_true, decide_eq_true_eq]
    rintro ⟨⟨h1, h2⟩, h3⟩
    exact hno.elim (by omega) h3
  · rw [hexec, hlate, if_pos]
    · refine congrArg _ ?_
      unfold State.issueDeferred
      rw [show freed.mem.deferred = [r] from hdef]
      exact State.issue_of_canIssue (s := freed.setMem { freed.mem with deferred := [] }) hcan r
    · simp only [hlen, hfull, Bool.and_eq_true, decide_eq_true_eq]
      exact ⟨⟨by omega, by omega⟩, hcan.1⟩

end Sys2Proof.Proofs
end

section
/-! CONFIG_SET (R4, R178), and the acceptance and the ends of the diagnostic operations (R181 to R184). -/

-- Fewer threads at once: each takes a part of the memory that a check of the whole text may use.
set_option Elab.async false

namespace Sys2Proof.Proofs

open Sys2Proof Sys2Proof.Machine

variable {s : State}

/-! ### CONFIG_SET (R178) -/

theorem params_get_set_self (c : Params) {i v : Nat} (h1 : 1 ≤ i) (h11 : i ≤ 11) (hlo : (paramRange i).1 ≤ v)
    (hhi : v ≤ (paramRange i).2) : (c.set i v).get i = some v := by
  have flag {n : Nat} (h : n ≤ 1) : (decide (n = 1)).toNat = n := by
    obtain rfl | rfl : n = 0 ∨ n = 1 := by omega
    · rfl
    · rfl
  interval_cases i
  -- Goal n is parameter n; a goal closed leaves the numbers before it as they are.
  on_goal 11 => exact congrArg some (flag hhi)
  on_goal 10 => exact congrArg some (flag hhi)
  on_goal 5 =>
    obtain rfl | rfl : v = 0 ∨ v = 1 := by
      have : v ≤ 1 := hhi
      omega
    · rfl
    · rfl
  all_goals rfl

/-- Each parameter is a field of its own: one that is not the one set reads back as it stood. -/
theorem params_get_set_other (c : Params) {i k : Nat} (h : k ≠ i) (v : Nat) : (c.set i v).get k = c.get k := by
  unfold Params.set
  split <;> simp only [Params.get] <;> split <;> simp at h ⊢

theorem isGeometry_iff {id : Byte} : isGeometry id = true ↔ id.toNat = 1 ∨ id.toNat = 2 := by
  simp [isGeometry, ← BitVec.toNat_inj]

/-- With no spare test running the pool is rebuilt alone. -/
theorem endTestSilently_of_ne (h : ∀ j, s.engine ≠ .testing j) : s.endTestSilently = s := by
  unfold State.endTestSilently
  split
  · next j hj => exact absurd hj (h j)
  · rfl

theorem endTestSilently_of_testing {j : TestJob} (h : s.engine = .testing j) :
    s.endTestSilently =
      { s with
        engine := .idle
        order := s.order.without .engine
        mem :=
          { s.mem with
            active := s.mem.active.filter fun a => a.owner ≠ .engine
            quarantine := s.mem.quarantine ++ (s.mem.active.filter fun a => a.owner = .engine).map (·.tag)
            deferred := s.mem.deferred.filter fun r => r.owner ≠ .engine } } := by
  unfold State.endTestSilently
  simp only [h]
  rfl

/-- The checks of R178, with the parameter's number in place of its byte. -/
theorem exec_configSet (hreset : s.resetLow = false) (id : Byte) (value : BitVec 32) :
    let i := id.toNat
    let v := value.toNat
    let geometry : Prop := i = 1 ∨ i = 2
    let new := s.mgmt.params.set i v
    exec (.configSet id value) s = .next
      (if i < 1 ∨ 11 < i then s.reply .badParam []
      else if geometry ∧ ¬(s.bridge.state = .standby ∧ s.map = []) then s.reply .badState []
      else if geometry ∧ s.mgmt.diag.isSome = true then s.reply .busy []
      else if v < (paramRange i).1 ∨ (paramRange i).2 < v then s.reply .range []
      else if geometry ∧ new.memRegions ≤ new.spareCount then s.reply .range []
      else if geometry then (s.setParam id v).geometryChange.reply .done (id :: le 4 v)
      else if i = 9 then (s.setParam id v).refreshAlert.reply .done (id :: le 4 v)
      else (s.setParam id v).reply .done (id :: le 4 v)) := by
  intro i v geometry new
  have hnine : id = 9 ↔ i = 9 := by simp [i, ← BitVec.toNat_inj]
  refine (State.unlessHeld_of_high hreset _).trans ?_
  simp only [isGeometry_iff, State.diagBusy, hnine, ← apply_ite Host.Outcome.next]
  rfl

/-- Settles O55: the checks in order, then the effect of the value stored. -/
theorem configSetStores : Obligations.ConfigSetStores := by
  intro id value s hreset i v ranges inRange stored bytes rebuilt
  have hexec := exec_configSet hreset id value
  have hrange (h1 : 1 ≤ i) (h11 : i ≤ 11) : ranges.getD i (0, 0) = paramRange i := by
    revert h1 h11
    generalize i = n
    intro h1 h11
    interval_cases n <;> rfl
  have hin (h1 : 1 ≤ i) (h11 : i ≤ 11) : inRange ↔ ¬(v < (paramRange i).1 ∨ (paramRange i).2 < v) := by
    simp only [inRange, hrange h1 h11]
    omega
  refine ⟨fun h1 h11 h => ⟨params_get_set_self _ h1 h11 ?_ ?_, fun k hk => params_get_set_other _ hk v⟩, fun h => ?_,
    fun h3 h11 => ⟨fun h => ?_, fun h hne => ?_, fun h hnine => ?_⟩, fun hgeo => ⟨fun h => ?_, fun hb hmap => ⟨fun h => ?_,
      fun hdiag => ⟨fun h => ?_, fun h hfit => ?_⟩⟩⟩⟩
  · exact hrange h1 h11 ▸ h.1
  · exact hrange h1 h11 ▸ h.2
  · rw [hexec, if_pos (by omega)]
  all_goals rw [hexec, if_neg (by omega)]
  · rw [if_neg (by omega), if_neg (by omega), if_pos (not_not.mp fun hc => h ((hin (by omega) h11).mpr hc))]
  · rw [if_neg (by omega), if_neg (by omega), if_neg ((hin (by omega) h11).mp h), if_neg (by omega), if_neg (by omega), if_neg hne]
    rfl
  · rw [if_neg (by omega), if_neg (by omega), if_neg ((hin (by omega) h11).mp h), if_neg (by omega), if_neg (by omega), if_pos hnine]
    refine congrArg (fun u => Host.Outcome.next (State.reply u .done bytes)) ?_
    refine (refreshAlert_setEv (s.setParam id v) s.ev).trans ?_
    have halert : (s.setParam id v).mgmt.params.alertLevel = v := congrArg (fun n => (s.mgmt.params.set n v).alertLevel) hnine
    exact congrArg (fun low => ({ stored with ev := { s.ev with alertLow := low } } : State))
      (decide_eq_decide.mpr (or_congr_left (by rw [halert])))
  · rw [if_pos ⟨hgeo, by tauto⟩]
  · rw [if_neg (by tauto), if_pos ⟨hgeo, h⟩]
  all_goals rw [if_neg (by tauto), if_neg (by simp [hdiag])]
  · by_cases hr : inRange
    · rw [if_neg ((hin (by omega) (by omega)).mp hr), if_pos ⟨hgeo, h.resolve_left (absurd hr)⟩]
    · rw [if_pos (not_not.mp fun hc => hr ((hin (by omega) (by omega)).mpr hc))]
  · rw [if_neg ((hin (by omega) (by omega)).mp h), if_neg (fun hc => absurd hc.2 (Nat.not_le.mpr hfit)), if_pos hgeo]
    refine ⟨fun hidle => ?_, fun j hj => ?_⟩ <;>
      refine congrArg (fun u => Host.Outcome.next (State.reply u .done bytes)) ?_ <;>
      unfold State.geometryChange State.rebuildPool
    · rw [endTestSilently_of_ne (s := s.setParam id v) hidle]
      rfl
    · rw [endTestSilently_of_testing (s := s.setParam id v) hj]
      rfl

/-! ### DIAG_FETCH and DIAG_STORE accepted (R181, R183) -/

theorem closing_iff : s.closing = true ↔ s.bridge.state = .format ∨ s.bridge.state = .contain := by
  simp [State.closing]

theorem lineInCopy_iff {p : Nat} : s.lineInCopy p = true ↔ ∃ r b, s.relation (p / 64) = .inCopy r b := by
  unfold State.lineInCopy
  change (match s.relation (p / 64) with | .inCopy _ _ => true | _ => false) = true ↔ _
  cases s.relation (p / 64) <;> simp

theorem onIdleSpare_iff {p : Nat} :
    s.onIdleSpare p = true ↔ s.V ≤ p / 64 ∧ p / 64 - s.V < s.S ∧
      (s.spares[p / 64 - s.V]? = some .free ∨ s.spares[p / 64 - s.V]? = some .bad) := by
  change (decide (s.V ≤ p / 64) && (decide (s.spare? (p / 64 - s.V) = some .free) || decide (s.spare? (p / 64 - s.V) = some .bad))) = true ↔ _
  unfold State.spare?
  by_cases h : p / 64 - s.V < s.S <;> simp [h]

/-- The checks that the diagnostic operations share (R181, R183). -/
def diagChecked (s : State) (p : Nat) (passed : State) : State :=
  if s.closing then s.reply .badState []
  else if s.diagBusy then s.reply .busy []
  else if s.P * 64 ≤ p then s.reply .range []
  else if s.lineInCopy p then s.reply .badState []
  else passed

theorem exec_diagFetch (hreset : s.resetLow = false) (line : BitVec 32) :
    exec (.diagFetch line) s = .next (diagChecked s line.toNat ((s.startDiag .fetch line.toNat).reply .accepted [])) := by
  refine (State.unlessHeld_of_high hreset _).trans ?_
  simp only [diagChecked, apply_ite Host.Outcome.next]

theorem exec_diagStore (hreset : s.resetLow = false) (line : BitVec 32) {mode : Byte} (hmode : mode = 0x00 ∨ mode = 0x01) :
    exec (.diagStore line mode) s = .next
      (diagChecked s line.toNat
        (if !s.mgmt.view.valid then s.reply .badState []
        else if s.inService && !s.onIdleSpare line.toNat then s.reply .badState []
        else (s.startDiag (if mode = 0x00 then .storeCode else .storePoison) line.toNat).reply .accepted [])) := by
  refine (State.unlessHeld_of_high hreset _).trans ?_
  rw [if_neg (by tauto)]
  simp only [diagChecked, apply_ite Host.Outcome.next]

theorem not_closing (hf : s.bridge.state ≠ .format) (hc : s.bridge.state ≠ .contain) : ¬s.closing = true := by
  rw [closing_iff]
  exact not_or.mpr ⟨hf, hc⟩

theorem diagChecked_of_passed {p : Nat} (hf : s.bridge.state ≠ .format) (hc : s.bridge.state ≠ .contain) (hd : s.mgmt.diag = none)
    (hp : p < s.P * 64) (hcopy : ¬∃ r b, s.relation (p / 64) = .inCopy r b) (passed : State) : diagChecked s p passed = passed := by
  unfold diagChecked
  rw [if_neg (not_closing hf hc), if_neg (by simp [State.diagBusy, hd]), if_neg (by omega), if_neg (by rwa [lineInCopy_iff])]

theorem diagKey_eq (p : Nat) : s.diagKey p = match servedBy s.V s.map p with | some h => .host h | none => .phys p := rfl

/-- An accepted operation whose key is free, with no PHYS hold on a line it would touch, is issued at once. -/
theorem startDiag_eq {k : DiagKind} {p : Nat} {t : Fin 64} (hfree : s.KeyFree (s.diagKey p))
    (hphys : ∀ h, s.diagKey p = .host h → s.KeyFree (.phys (Machine.translate s.V s.map h))) (hcan : s.CanIssue t) :
    s.startDiag k p =
      State.issued { s with mgmt := { s.mgmt with diag := some ⟨k, p⟩ }, order := s.order.append (s.diagKey p) .diag true } t .diag
        (s.diagKindOp k) p := by
  refine State.requestHold_of_keyFree (s := s.setMgmt { s.mgmt with diag := some ⟨k, p⟩ }) hfree
    (State.heldBack_of_keyFree fun q hq e he => ?_) ?_
    (State.nextOwner_of_active (List.mem_append_right _ (List.mem_singleton_self _)) rfl rfl)
  · unfold State.touches at hq
    cases hk : s.diagKey p with
    | phys _ => simp [hk] at hq
    | host h =>
      obtain rfl : q = Machine.translate s.V s.map h := by
        rw [hk] at hq
        exact List.mem_singleton.mp hq
      rcases List.mem_append.mp he with he | he
      · exact hphys h hk e he
      · rw [List.mem_singleton.mp he, hk]
        exact Key.noConfusion
  · exact congrArg (fun u => (u, [])) (State.issue_of_canIssue (s := State.setOrder (s.setMgmt { s.mgmt with diag := some ⟨k, p⟩ })
      (s.order.append (s.diagKey p) .diag true)) (hcan.of rfl rfl) ⟨.diag, s.diagKindOp k, p⟩)

/-- Settles O56: the shared checks, those of the store, and a request on a free key. -/
theorem diagnosticsAccepted : Obligations.DiagnosticsAccepted := by
  intro line s t hreset p key inCopy free accepted allowed idleSpare
  refine ⟨fun c hc => ?_, fun hall hfree => ?_, fun mode h0 h1 => (State.unlessHeld_of_high hreset _).trans (if_pos ⟨h0, h1⟩),
    fun mode hmode hall => ?_⟩
  · obtain ⟨passed, hexec⟩ : ∃ passed, exec c s = .next (diagChecked s p passed) := by
      rcases hc with rfl | rfl | rfl
      · exact ⟨_, exec_diagFetch hreset line⟩
      · exact ⟨_, exec_diagStore hreset line (.inl rfl)⟩
      · exact ⟨_, exec_diagStore hreset line (.inr rfl)⟩
    rw [hexec]
    unfold diagChecked
    refine ⟨fun hb => by rw [if_pos (closing_iff.mpr hb)], fun hf hb => ⟨fun hd => ?_, fun hd => ⟨fun hp => ?_, fun hp hcopy => ?_⟩⟩⟩ <;>
      rw [if_neg (not_closing hf hb)]
    · rw [if_pos (by exact hd)]
    · rw [if_neg (by simp [State.diagBusy, hd]), if_pos hp]
    · rw [if_neg (by simp [State.diagBusy, hd]), if_neg (by omega), if_pos (lineInCopy_iff.mpr hcopy)]
  · obtain ⟨hf, hc, hd, hp, hcopy⟩ := hall
    obtain ⟨hkey, hphys, hcan⟩ := hfree
    rw [exec_diagFetch hreset, diagChecked_of_passed hf hc hd hp hcopy, startDiag_eq hkey hphys hcan]
    rfl
  · obtain ⟨hf, hc, hd, hp, hcopy⟩ := hall
    rw [exec_diagStore hreset line hmode, diagChecked_of_passed hf hc hd hp hcopy]
    refine ⟨fun h => ?_, fun hvalid hplace hfree => ?_⟩
    · by_cases hvalid : s.mgmt.view.valid = false
      · rw [if_pos (by simp [hvalid])]
      · obtain ⟨hserv, hidle⟩ := h.resolve_left hvalid
        rw [if_neg (by simpa using hvalid), if_pos]
        rw [(State.inService_of hserv).2.2, Bool.true_and, Bool.not_eq_true', ← Bool.not_eq_true, onIdleSpare_iff]
        exact hidle
    · obtain ⟨hkey, hphys, hcan⟩ := hfree
      rw [if_neg (by simp [hvalid]), if_neg]
      · rw [startDiag_eq hkey hphys hcan]
        rcases hmode with rfl | rfl <;> rfl
      · simp only [Bool.and_eq_true, Bool.not_eq_true', ← Bool.not_eq_true, onIdleSpare_iff]
        rintro ⟨hserv, hidle⟩
        exact hplace.elim (fun hb => by simp [State.inService, hb] at hserv) hidle

end Sys2Proof.Proofs
end

section
/-! Entry into CONTAIN (R136, R137): what Bridge Control does itself, and what the owners that are told may change. -/

-- Fewer threads at once: each takes a part of the memory that a check of the whole text may use.
set_option Elab.async false

namespace Sys2Proof.Proofs

open Sys2Proof Sys2Proof.Machine

variable {s t u : State} {w : Owner}

/-! ### What an owner that is told may change (R54, R58, R74, R95, R128, R170, R184) -/

/-- An owner that is told of CONTAIN does no memory work and requests no hold; it stops what it does. Only the diagnostic operation
changes the staging pair. -/
structure Told (w : Owner) (s t : State) : Prop where
  mem : t.mem = s.mem
  memOut : t.memOut = s.memOut
  mgmt : w ≠ .diag → t.mgmt = s.mgmt
  bridge : t.bridge = s.bridge
  entries : t.order.entries.Sublist s.order.entries
  engine : ∀ j, s.engine = .halted j → t.engine = .halted j
  timer : t.patrol.timer = s.patrol.timer
  due : t.patrol.due = s.patrol.due
  running : s.patrol.running = false → t.patrol.running = false
  events : s.ev.queue <+: t.ev.queue
  alert : s.bridge.state = .contain → s.ev.alertLow = true → t.ev.alertLow = true

theorem Told.refl (s : State) : Told w s s :=
  ⟨rfl, rfl, fun _ => rfl, rfl, .refl _, fun _ h => h, rfl, rfl, id, List.prefix_refl _, fun _ h => h⟩

theorem Told.trans (h : Told w s t) (h' : Told w t u) : Told w s u :=
  ⟨h'.mem.trans h.mem, h'.memOut.trans h.memOut, fun hw => (h'.mgmt hw).trans (h.mgmt hw), h'.bridge.trans h.bridge, h'.entries.trans h.entries,
    fun j hj => h'.engine j (h.engine j hj), h'.timer.trans h.timer, h'.due.trans h.due, fun hr => h'.running (h.running hr),
    h.events.trans h'.events, fun hb ha => h'.alert (h.bridge ▸ hb) (h.alert hb ha)⟩

theorem Told.any (h : Told w s t) : Told .diag s t :=
  ⟨h.mem, h.memOut, absurd rfl, h.bridge, h.entries, h.engine, h.timer, h.due, h.running, h.events, h.alert⟩

/-- A change of other parts of the state. -/
theorem Told.of_eq (hm : t.mem = s.mem) (ho : t.memOut = s.memOut) (hg : t.mgmt = s.mgmt) (hb : t.bridge = s.bridge)
    (he : t.order.entries.Sublist s.order.entries) (hj : t.engine = s.engine) (hp : t.patrol = s.patrol) (hv : t.ev.queue = s.ev.queue)
    (ha : t.ev.alertLow = s.ev.alertLow) : Told w s t :=
  ⟨hm, ho, fun _ => hg, hb, he, fun _ h => hj.trans h, by rw [hp], by rw [hp], fun h => by rw [hp, h], hv ▸ List.prefix_refl _, fun _ h => ha.trans h⟩

theorem prefix_append (q : EventUnit) (pass : BitVec 16) (e : Event) : q.queue <+: (q.append pass e).queue := by
  unfold EventUnit.append
  split
  · exact List.prefix_append _ _
  · exact List.prefix_refl _

theorem alertLow_logEvent (h : s.bridge.state = .contain) (e : Event) : (s.logEvent e).ev.alertLow = true :=
  (alertCondition_eq_decide (s.logEvent e)).trans (decide_eq_true (.inr h))

theorem told_logEvent (s : State) (e : Event) : Told w s (s.logEvent e) :=
  ⟨rfl, rfl, fun _ => rfl, rfl, .refl _, fun _ h => h, rfl, rfl, id, prefix_append _ _ _, fun hb _ =>
    alertLow_logEvent hb e⟩

theorem told_count (s : State) (f : Counters → Counters) : Told w s (s.count f) :=
  .of_eq rfl rfl rfl rfl (.refl _) rfl rfl rfl rfl

theorem told_hand (s : State) (x : Handed) : Told w s (s.hand x) :=
  .of_eq rfl rfl rfl rfl (.refl _) rfl rfl rfl rfl

theorem told_removeHold (s : State) (o : Owner) : Told w s (s.removeHold o) :=
  .of_eq rfl rfl rfl rfl List.filter_sublist rfl rfl rfl rfl

theorem told_respond (s : State) (op : HostOp) (st : RespStatus) (d : Data) : Told w s (s.respond op st d) := by
  unfold State.respond State.send
  split
  · exact .refl s
  · split <;> exact .of_eq rfl rfl rfl rfl (.refl _) rfl rfl rfl rfl

theorem told_portQuiesced (s : State) : Told w s s.portQuiesced :=
  Told.trans (t := s.setLink { s.link with quiesce := false }) (.of_eq rfl rfl rfl rfl (.refl _) rfl rfl rfl rfl) (told_logEvent _ _)

theorem told_endHostOp (s : State) (op : HostOp) : Told w s (s.endHostOp op) := by
  have hgone : Told w s ((s.removeHold (.host op.tag)).setOps (s.ops.filter fun o => o.tag ≠ op.tag)) :=
    .of_eq rfl rfl rfl rfl List.filter_sublist rfl rfl rfl rfl
  unfold State.endHostOp
  dsimp only
  split
  · refine hgone.trans ?_
    unfold State.orphanFinished
    dsimp only
    split
    · exact .of_eq rfl rfl rfl rfl (.refl _) rfl rfl rfl rfl
    · refine Told.trans ?_ (told_portQuiesced _)
      exact .of_eq rfl rfl rfl rfl (.refl _) rfl rfl rfl rfl
  · exact hgone.trans (.of_eq rfl rfl rfl rfl (.refl _) rfl rfl rfl rfl)

theorem told_hostReport (s : State) (k : ReportKind) (p : Nat) : Told w s (s.hostReport k p) := by
  unfold State.hostReport
  split
  · exact .refl s
  · exact told_hand s _

theorem told_hostTransient (s : State) (p n : Nat) : Told w s (s.hostTransient p n) :=
  (told_hostReport s _ _).trans ((told_logEvent _ _).trans (told_count _ _))

theorem told_hostContainReply (s : State) (op : HostOp) (e : MemEnd) : Told w s (s.hostContainReply op e) := by
  unfold State.hostContainReply
  dsimp only
  split
  case h_5 =>
    split
    case h_2 => split <;> exact (told_hostReport s _ _).trans (told_respond _ _ _ _)
    case h_1 => split <;> exact told_respond _ _ _ _
    all_goals exact told_respond _ _ _ _
  case h_6 =>
    split
    case h_1 => split <;> exact (told_hostTransient s _ _).trans (told_respond _ _ _ _)
    case h_2 => split <;> exact (told_hostTransient s _ _).trans (told_respond _ _ _ _)
    all_goals exact told_respond _ _ _ _
  case h_1 => exact .refl s
  case h_2 => exact .refl s
  all_goals exact told_respond _ _ _ _

theorem told_patrolContainReport (s : State) (v : Visit) (e : MemEnd) : Told w s (s.patrolContainReport v e) := by
  unfold State.patrolContainReport
  dsimp only
  split
  · exact told_hand s _
  · exact (told_hand s _).trans (told_logEvent _ _)
  · exact (told_hand s _).trans (told_logEvent _ _)
  · exact .refl s

theorem told_closeVisit (s : State) (e : VisitEnd) : Told w s (s.closeVisit e) := by
  rw [closeVisit_eq]
  split
  · refine .trans ?_ ((told_logEvent _ _).trans (told_hand _ _))
    refine ⟨rfl, rfl, fun _ => rfl, rfl, .refl _, fun _ h => h, ?_, ?_, fun h => ?_, List.prefix_refl _, fun _ h => h⟩ <;>
      simp only [State.setPatrol_patrol, nextPass, offer_eq, visited]
    exact h
  · exact ⟨rfl, rfl, fun _ => rfl, rfl, .refl _, fun _ h => h, rfl, rfl, id, List.prefix_refl _, fun _ h => h⟩

theorem told_finishTest {j : TestJob} (h : s.engine = .testing j) (r : TestResult) : Told w s (s.finishTest j r) := by
  have hlog := told_logEvent (w := w) ((s.setSpare j.index (match r with
    | .good => SpareState.free | .bad => .bad | .timeout => j.before | .abandoned => j.before)).setLastTest (some (j.index, r)))
    (.spareTested j.index r)
  exact ⟨rfl, rfl, fun _ => rfl, rfl, .refl _, fun k hk => absurd (h.symm.trans hk) EngineState.noConfusion, rfl, rfl, id, hlog.events, hlog.alert⟩

theorem told_finishDiag (s : State) (d : DiagOp) (e : MemEnd) : Told .diag s (s.finishDiag d e) := by
  unfold State.finishDiag
  split <;> exact ⟨rfl, rfl, absurd rfl, rfl, .refl _, fun _ h => h, rfl, rfl, id, List.prefix_refl _, fun _ h => h⟩

theorem told_withdrawn (s : State) (o : Owner) : Told o s (s.withdrawn o) := by
  unfold State.withdrawn
  cases o with
  | host g =>
    dsimp only
    split
    · exact (told_respond s _ _ _).trans (told_endHostOp _ _)
    · exact .refl s
  | patrol => exact ⟨rfl, rfl, fun _ => rfl, rfl, .refl _, fun _ h => h, rfl, rfl, fun _ => rfl, List.prefix_refl _, fun _ h => h⟩
  | engine =>
    dsimp only
    split
    · next h => exact told_finishTest h _
    · exact .refl s
  | diag => exact ⟨rfl, rfl, absurd rfl, rfl, .refl _, fun _ h => h, rfl, rfl, id, List.prefix_refl _, fun _ h => h⟩
  | format => exact .refl s

theorem told_endInContain (s : State) (o : Owner) (e : MemEnd) : Told o s (s.endInContain o e) := by
  unfold State.endInContain
  cases o with
  | host g =>
    dsimp only
    split
    · exact (told_hostContainReply s _ _).trans (told_endHostOp _ _)
    · exact .refl s
  | patrol =>
    dsimp only
    split
    · next v hv =>
      refine ((told_patrolContainReport s v e).trans ((told_removeHold _ .patrol).trans
        (told_closeVisit _ (v.containEnd e)))).trans ?_
      exact ⟨rfl, rfl, fun _ => rfl, rfl, .refl _, fun _ h => h, rfl, rfl, fun _ => rfl, List.prefix_refl _, fun _ h => h⟩
    · exact .refl s
  | engine =>
    change Told .engine s s.engineContainEnd
    unfold State.engineContainEnd
    split
    · next h => exact (told_removeHold s .engine).trans (told_finishTest (s := s.removeHold .engine) h .abandoned)
    · exact told_removeHold s _
  | diag =>
    change Told .diag s (s.diagContainEnd e)
    unfold State.diagContainEnd
    split
    · exact (told_removeHold s _).trans (told_finishDiag _ _ _)
    · exact .refl s
  | format => exact .refl s

theorem told_containOwner (l : List Owner) (s : State) (o : Owner) : Told o s (State.containOwner l s o) := by
  unfold State.containOwner
  split
  · exact told_withdrawn s o
  · exact told_endInContain s o _

theorem told_containOwners (l os : List Owner) (s : State) : Told .diag s (os.foldl (State.containOwner l) s) := by
  induction os generalizing s with
  | nil => exact .refl s
  | cons o os ih => exact (told_containOwner l s o).any.trans (ih _)

theorem told_ownersTold (s : State) : Told .diag ((quieted s).setHostOut []) (ownersTold s) :=
  (told_containOwners _ _ _).trans (told_containOwners _ _ _)

/-! ### The entry (R137) -/

theorem exec_forceContain_of_serving (hreset : s.resetLow = false)
    (hb : s.bridge.state = .format ∨ s.bridge.state = .online ∨ s.bridge.state = .degraded) :
    exec .forceContain s = .next ((s.enterContain ⟨.forced, none⟩).reply .done []) := by
  refine (State.unlessHeld_of_high hreset _).trans ?_
  rcases hb with hb | hb | hb <;> rw [hb]

theorem takeContainment_of_serving (hb : s.bridge.state = .format ∨ s.bridge.state = .online ∨ s.bridge.state = .degraded)
    (r : ContainRequest) : s.takeContainment r = s.enterContain r := by
  unfold State.takeContainment
  rcases hb with hb | hb | hb <;> rw [hb]

/-- What entry into CONTAIN comes to, whoever asked for it. -/
structure Entered (s : State) (r : ContainRequest) (t : State) : Prop where
  state : t.bridge.state = .contain
  history : t.bridge.history = (s.bridge.state :: s.bridge.history).take 4
  record : t.bridge.record = some ⟨true, r.cause, r.line, t.bridge.history, s.patrol.pass, 0, none⟩
  cursor : t.bridge.cursor = none
  events : s.ev.queue.length ≤ 62 →
    s.ev.queue ++
        [⟨s.ev.nextSeq, s.patrol.pass, .stateChanged s.bridge.state .contain⟩,
          ⟨s.ev.nextSeq + 1, s.patrol.pass, .contained r.cause⟩] <+: t.ev.queue
  alert : t.ev.alertLow = true
  noneWaits : t.NoneWaits
  deferred : t.mem.deferred = []
  active : t.mem.active = s.mem.active
  memOut : t.memOut = s.memOut
  map : t.map = s.map
  queue : t.queue = s.queue
  suspects : t.suspects = s.suspects
  generation : t.mem.generation = s.mem.generation
  params : t.mgmt.params = s.mgmt.params
  halted : ∀ j, s.engine = .copying j ∨ s.engine = .suspended j → t.engine = .halted { j with phase := .none }
  timer : t.patrol.timer = .stopped
  due : t.patrol.due = false
  running : s.patrol.visit = none → t.patrol.running = false
  reply : t.mgmt.reply = s.mgmt.reply

theorem enterContainControl_events (h : s.ev.queue.length ≤ 62) (r : ContainRequest) :
    (s.enterContainControl r).ev.queue = s.ev.queue ++
      [⟨s.ev.nextSeq, s.patrol.pass, .stateChanged s.bridge.state .contain⟩, ⟨s.ev.nextSeq + 1, s.patrol.pass, .contained r.cause⟩] := by
  rw [enterContainControl_eq]
  dsimp only
  rw [logEvent_of_room (by rw [logEvent_of_room (by simp; omega)]; simp; omega), logEvent_of_room (by simp; omega)]
  simp

theorem entered_enterContain (s : State) (r : ContainRequest) : Entered s r (s.enterContain r) := by
  let w := s.enterContainControl r
  have hw : w.bridge.state = .contain := rfl
  have htold := told_ownersTold w
  have hbase := (ownersTold_flow (x := ⟨fun _ => True, True, True⟩) hw trivial).base
  have hstops (h : s.patrol.visit = none) : (quieted w).patrol.running = false := by
    change (Patrol.stop s.patrol).running = false
    simp [Patrol.stop, h]
  have halert : w.ev.alertLow = true := by
    simp only [w, enterContainControl_eq]
    exact alertLow_logEvent rfl _
  have hstand : ((quieted w).setHostOut []).order.entries = w.order.entries.filter (·.active) := rfl
  exact {
    state := congrArg Bridge.state htold.bridge
    history := congrArg Bridge.history htold.bridge
    record := (congrArg Bridge.record htold.bridge).trans
      (congrArg (fun l => some (⟨true, r.cause, r.line, l, s.patrol.pass, 0, none⟩ : ContainRecord))
        (congrArg Bridge.history htold.bridge).symm)
    cursor := congrArg Bridge.cursor htold.bridge
    events := fun h => enterContainControl_events h r ▸ htold.events
    alert := htold.alert hw halert
    noneWaits := fun e he => (List.mem_filter.mp (hstand ▸ htold.entries.subset he)).2
    deferred := congrArg MemPort.deferred htold.mem
    active := (congrArg MemPort.active htold.mem).trans rfl
    memOut := htold.memOut
    map := hbase.map
    queue := hbase.queue
    suspects := hbase.suspects
    generation := hbase.generation
    params := hbase.params
    halted := fun j hj => htold.engine _ (by
      change EngineState.halt s.engine = _
      rcases hj with hj | hj <;> rw [hj] <;> rfl)
    timer := htold.timer
    due := htold.due
    running := fun h => htold.running (hstops h)
    reply := hbase.reply }

theorem Entered.of_requests {s t : State} {r : ContainRequest} {b : Bridge} (h : Entered (s.setBridge b) r t)
    (hs : b.state = s.bridge.state) (hh : b.history = s.bridge.history) : Entered s r t := by
  obtain ⟨h1, h2, h3, h4, h5, h6, h7, h8, h9, h10, h11, h12, h13, h14, h15, h16, h17, h18, h19, h20⟩ := h
  rw [State.setBridge_bridge, hs, hh] at h2
  rw [State.setBridge_bridge, hs] at h5
  exact ⟨h1, h2, h3, h4, h5, h6, h7, h8, h9, h10, h11, h12, h13, h14, h15, h16, h17, h18, h19, h20⟩

/-- Settles O42: what Bridge Control does, which what the owners that are told may change leaves standing. -/
theorem containmentEntered : Obligations.ContainmentEntered := by
  intro s r c hreset hb hc
  rcases hc with ⟨rfl, rfl⟩ | ⟨rest, rfl, hhead⟩ | ⟨rest, rfl, hhead⟩
  · have h := entered_enterContain s ⟨.forced, none⟩
    exact ⟨_, exec_forceContain_of_serving hreset hb, h.state, h.history, h.record, h.cursor, h.events, h.alert, h.noneWaits,
      h.deferred, h.active, h.memOut, h.map, h.queue, h.suspects, h.generation, h.params, h.halted, h.timer, h.due, h.running, rfl⟩
  · have h := (entered_enterContain (s.setBridge { s.bridge with fromMemory := rest }) r).of_requests rfl rfl
    have hexec := exec_containmentRequest_memoryPort hreset hhead
    rw [takeContainment_of_serving (s := s.setBridge { s.bridge with fromMemory := rest }) hb] at hexec
    refine ⟨_, hexec, h.state,
      h.history, h.record, h.cursor, h.events, h.alert, h.noneWaits, h.deferred, h.active, h.memOut, h.map, h.queue, h.suspects,
      h.generation, h.params, h.halted, h.timer, h.due, h.running, ?_⟩
    rw [if_neg Instr.noConfusion]
    exact h.reply
  · have h := (entered_enterContain (s.setBridge { s.bridge with fromHandler := rest }) r).of_requests rfl rfl
    have hexec := exec_containmentRequest_requestHandler hreset hhead
    rw [takeContainment_of_serving (s := s.setBridge { s.bridge with fromHandler := rest }) hb] at hexec
    refine ⟨_, hexec, h.state,
      h.history, h.record, h.cursor, h.events, h.alert, h.noneWaits, h.deferred, h.active, h.memOut, h.map, h.queue, h.suspects,
      h.generation, h.params, h.halted, h.timer, h.due, h.running, ?_⟩
    rw [if_neg Instr.noConfusion]
    exact h.reply

end Sys2Proof.Proofs
end

section
/-! Withdrawal: the one hold that waits, at entry into CONTAIN (R74). -/

-- Fewer threads at once: each takes a part of the memory that a check of the whole text may use.
set_option Elab.async false

namespace Sys2Proof.Proofs

open Sys2Proof Sys2Proof.Machine

variable {s : State}

/-! ### What a withdrawal does to its owner -/

theorem opOf_tag {g : Fin 32} {op : HostOp} (h : s.opOf g = some op) : op.tag = g := by
  simpa using List.find?_some h

theorem withdrawn_host {g : Fin 32} {op : HostOp} (h : s.opOf g = some op) :
    s.withdrawn (.host g) = (s.answeredTo op .failed Data.zero).opEnded op := by
  unfold State.withdrawn
  simp only [h]
  rw [State.endHostOp_eq, State.respond_eq]

theorem withdrawn_testing {j : TestJob} (h : s.engine = .testing j) : s.withdrawn .engine = s.finishTest j .abandoned := by
  unfold State.withdrawn
  simp only [h]

/-- A withdrawal leaves the holds of other owners. -/
theorem withdrawn_entries {o : Owner} (h : ∀ x ∈ s.order.entries, x.owner ≠ o) :
    (s.withdrawn o).order.entries = s.order.entries := by
  cases o with
  | host g =>
    cases hop : s.opOf g with
    | none => unfold State.withdrawn; simp only [hop]
    | some op =>
      rw [withdrawn_host hop, State.opEnded_entries, ← State.respond_eq, State.respond_order, opOf_tag hop]
      exact List.filter_eq_self.mpr fun x hx => decide_eq_true (h x hx)
  | engine =>
    cases hj : s.engine with
    | testing j => rw [withdrawn_testing hj]; rfl
    | _ => unfold State.withdrawn; simp only [hj]
  | _ => rfl

theorem answeredTo_ops (s : State) (op : HostOp) (st : RespStatus) (d : Data) : (s.answeredTo op st d).ops = s.ops := by
  unfold State.answeredTo
  split
  · rfl
  · cases st <;> rfl

theorem opEnded_ops (s : State) (op : HostOp) : (s.opEnded op).ops = s.ops.filter fun o => o.tag ≠ op.tag := by
  unfold State.opEnded
  split
  · dsimp only
    split <;> rfl
  · rfl

theorem opEnded_hostOut (s : State) (op : HostOp) : (s.opEnded op).hostOut = s.hostOut := by
  unfold State.opEnded
  split
  · dsimp only
    split <;> rfl
  · rfl

/-! ### The entry with one waiter -/

theorem filter_waiting {pre post : List Hold} {e : Hold} (he : e.active = false) (h : ∀ x ∈ pre ++ post, x.active = true) :
    ((pre ++ e :: post).filter fun x => !x.active) = [e] ∧ (pre ++ e :: post).filter (·.active) = pre ++ post := by
  have hpre : pre.filter (fun x => !x.active) = [] :=
    List.filter_eq_nil_iff.mpr fun x hx => by simp [h x (List.mem_append_left _ hx)]
  have hpost : post.filter (fun x => !x.active) = [] :=
    List.filter_eq_nil_iff.mpr fun x hx => by simp [h x (List.mem_append_right _ hx)]
  have hall : (pre ++ post).filter (·.active) = pre ++ post := List.filter_eq_self.mpr h
  rw [List.filter_append] at hall
  constructor
  · rw [List.filter_append, hpre, List.filter_cons_of_pos (by simp [he]), hpost]
    rfl
  · rw [List.filter_append, List.filter_cons_of_neg (by simp [he]), hall]

/-- Where one hold waits and nothing is deferred, its owner alone is told. -/
theorem ownersTold_of_one {o : Owner} (hw : s.waitingOwners = [o]) (hd : s.mem.deferred = []) :
    ownersTold s = ((quieted s).setHostOut []).withdrawn o := by
  have hone (u : State) : State.containOwner [o] u o = u.withdrawn o := if_pos (by simp)
  unfold ownersTold
  simp only [hw, hd]
  by_cases ho : o = .engine
  · subst ho
    exact hone _
  · simp [ho, arrange, hone]

/-- The state in which the owner is told. -/
def stopped (s : State) : State := (quieted (s.enterContainControl ⟨.forced, none⟩)).setHostOut []

theorem logEvent_queue (h : s.ev.queue.length < 64) (e : Event) :
    (s.logEvent e).ev.queue = s.ev.queue ++ [⟨s.ev.nextSeq, s.patrol.pass, e⟩] := by
  rw [logEvent_of_room h]

theorem logEvent_nextSeq (h : s.ev.queue.length < 64) (e : Event) : (s.logEvent e).ev.nextSeq = s.ev.nextSeq + 1 := by
  rw [logEvent_of_room h]

theorem enterContainControl_nextSeq (h : s.ev.queue.length ≤ 62) (r : ContainRequest) :
    (s.enterContainControl r).ev.nextSeq = s.ev.nextSeq + 2 := by
  rw [enterContainControl_eq]
  dsimp only
  rw [logEvent_nextSeq (by rw [logEvent_queue (by simp; omega)]; simp; omega), logEvent_nextSeq (by simp; omega)]
  exact BitVec.add_assoc _ 1 1

/-- Settles O43: the owner of the one hold that waits is the one that is told. -/
theorem waitingRequestFailsAtContainment : Obligations.WaitingRequestFailsAtContainment := by
  intro s pre post e hreset hb hd hent he hothers
  obtain ⟨hwait, hstand⟩ := filter_waiting he fun x hx => (hothers x hx).1
  have hexec := exec_forceContain_of_serving hreset (.inr hb)
  let w := s.enterContainControl ⟨.forced, none⟩
  let v := stopped s
  have howners : w.waitingOwners = [e.owner] := by
    change (s.order.entries.filter fun x => !x.active).map (·.owner) = _
    rw [hent, hwait]
    rfl
  have htold : ownersTold w = v.withdrawn e.owner := ownersTold_of_one howners hd
  have hvent : v.order.entries = pre ++ post := by
    change s.order.entries.filter (·.active) = _
    rw [hent, hstand]
  have hvmem : v.mem = s.mem := by
    change { s.mem with deferred := [] } = s.mem
    rw [← hd]
  have hkept : Told e.owner v (v.withdrawn e.owner) := told_withdrawn v _
  have hent' : (v.withdrawn e.owner).order.entries = pre ++ post := by
    rw [withdrawn_entries fun x hx => (hothers x (hvent ▸ hx)).2, hvent]
  let out := s.hostOut ++ arrange (fun r => Config.order (w.free + 1) r.tag.val) (v.withdrawn e.owner).hostOut
  have hresult : s.enterContain ⟨.forced, none⟩ = (v.withdrawn e.owner).setHostOut out := by
    unfold State.enterContain
    rw [enterContainBlocks_eq, htold]
    rfl
  rw [hresult] at hexec
  have hout {l : List Response} (h : (v.withdrawn e.owner).hostOut = l) :
      out = s.hostOut ++ arrange (fun r => Config.order (w.free + 1) r.tag.val) l := congrArg (fun l => s.hostOut ++ arrange _ l) h
  refine ⟨_, hexec, hent', hkept.memOut, hkept.mem.trans hvmem, fun op ho hop => ?_, fun ho => ?_, fun j ho hj => ?_, fun j ho hj => ?_,
    fun ho => ?_⟩
  · have hdone : v.withdrawn e.owner = (v.answeredTo op .failed Data.zero).opEnded op := by
      rw [ho]
      exact withdrawn_host hop
    have hops : (v.withdrawn e.owner).ops = s.ops.filter fun o => o.tag ≠ op.tag := by
      rw [hdone, opEnded_ops, answeredTo_ops]
      rfl
    refine ⟨hops, fun horphan => ⟨hout (l := [⟨op.tag, .failed, _⟩]) ?_, ?_⟩, fun horphan => ?_⟩
    · rw [hdone, opEnded_hostOut, State.answeredTo, horphan]
      cases op.req <;> rfl
    · change (v.withdrawn e.owner).link.busy = _
      rw [hdone, State.opEnded, State.answeredTo, horphan]
      rfl
    · refine (hout (l := []) ?_).trans (List.append_nil _)
      rw [hdone, opEnded_hostOut, State.answeredTo, horphan]
      rfl
  · refine ⟨(hout (l := []) (by rw [ho]; rfl)).trans (List.append_nil _), ?_⟩
    rw [ho]
    rfl
  · have hv : v.engine = .halted { j with phase := .none } := congrArg EngineState.halt hj
    exact hkept.engine _ hv
  · have hv : v.engine = .testing j := congrArg EngineState.halt hj
    rw [ho, withdrawn_testing hv]
    refine ⟨rfl, rfl, rfl, fun hroom => ?_⟩
    have hq : v.ev.queue = _ := enterContainControl_events (by omega) ⟨.forced, none⟩
    have hn : v.ev.nextSeq = _ := enterContainControl_nextSeq (by omega) ⟨.forced, none⟩
    have hlog := logEvent_queue (s := (v.setSpare j.index j.before).setLastTest (some (j.index, .abandoned)))
      (by change v.ev.queue.length < 64; rw [hq]; simp; omega) (.spareTested j.index .abandoned)
    refine hlog.trans ?_
    change v.ev.queue ++ [⟨v.ev.nextSeq, s.patrol.pass, _⟩] = _
    rw [hq, hn, List.append_assoc]
    rfl
  · rw [ho]
    rfl

end Sys2Proof.Proofs
end

section
/-! The ends of memory operations, the first write of the format, and the ends of the diagnostic operations (R75, R182 to R184). -/

-- Fewer threads at once: each takes a part of the memory that a check of the whole text may use.
set_option Elab.async false

namespace Sys2Proof.Proofs

open Sys2Proof Sys2Proof.Machine

variable {s : State}

/-! ### Ends of memory operations (R166, R167) -/

/-- A timeout: the owner acts, then the tag is quarantined and the timeout counted. -/
theorem exec_timeout {g : Fin 64} {o : Owner} {k : MemKind} {line : Nat} (h : s.Awaits g o k line) :
    exec (.memoryTimeout g) s = .next ((s.tellOwner o .timeout).timedOut g k line o.name) := by
  obtain ⟨us, hexec⟩ := exec_memoryTimeout h
  rw [hexec, State.timeOut_eq]

theorem tellOwner_of_contain (h : s.bridge.state = .contain) (o : Owner) (e : MemEnd) : s.tellOwner o e = s.endInContain o e :=
  if_pos h

/-! ### The first write of the format (R75, R133) -/

/-- The cursor takes its notice once. -/
theorem formatNotice_drained {t : Fin 64} (hb : s.bridge.state = .format) : (s.drained t).formatNotice = s.drained t := by
  unfold State.drained
  cases hc : s.bridge.cursor with
  | none => simp only [State.formatNotice, hc]
  | some c =>
    obtain ⟨n, draining⟩ := c
    cases draining with
    | false => simp only [State.formatNotice, hc, Bool.false_and, Bool.and_false, Bool.false_eq_true, if_false]
    | true =>
      by_cases he : s.order.entries = []
      · simp only [he, if_true]
        by_cases hq : 28 ≤ s.mem.quarantine.length
        · simp [hq, State.formatNotice]
        · simp [hq, State.formatNotice, State.issued]
      · simp [he, State.formatNotice, hc, hb]

/-- The cursor's notice and what a spare test leaves do not touch each other. -/
theorem finishTest_drained (s : State) (t : Fin 64) (j : TestJob) (r : TestResult) :
    (s.drained t).finishTest j r = (s.finishTest j r).drained t := by
  have hkeep : (s.finishTest j r).bridge = s.bridge ∧ (s.finishTest j r).order = s.order ∧ (s.finishTest j r).mem = s.mem := ⟨rfl, rfl, rfl⟩
  obtain ⟨hb, ho, hm⟩ := hkeep
  unfold State.drained
  rw [hb, ho, hm]
  cases hc : s.bridge.cursor with
  | none => rfl
  | some c =>
    obtain ⟨n, draining⟩ := c
    cases draining with
    | false => rfl
    | true =>
      by_cases he : s.order.entries = []
      · simp only [he, if_true]
        by_cases hq : 28 ≤ s.mem.quarantine.length
        · simp only [hq, if_true]
          rfl
        · simp only [hq, if_false]
          rfl
      · simp only [he, if_false]

/-! ### A diagnostic operation's end (R182, R183) -/

/-- What a diagnostic operation leaves: a fetch fills FILL, busy clears, and its hold is gone. -/
def diagEnded (s : State) (d : DiagOp) (e : MemEnd) : State :=
  { s with
    mgmt := { s.mgmt with fill := if d.kind = .fetch then fetchBuffer d.line e else s.mgmt.fill, diag := none }
    order := s.order.without .diag }

theorem finishDiag_eq (s : State) (d : DiagOp) (e : MemEnd) :
    s.finishDiag d e = s.setMgmt { s.mgmt with fill := if d.kind = .fetch then fetchBuffer d.line e else s.mgmt.fill, diag := none } := by
  unfold State.finishDiag
  cases d.kind <;> rfl

theorem tellOwner_diag {d : DiagOp} (hd : s.mgmt.diag = some d) (hf : s.bridge.state ≠ .format)
    (h : s.NoneWaits ∨ s.bridge.state = .contain) (e : MemEnd) : s.tellOwner .diag e = diagEnded s d e := by
  by_cases hc : s.bridge.state = .contain
  · rw [tellOwner_of_contain hc]
    unfold State.endInContain State.diagContainEnd
    simp only [hd, finishDiag_eq]
    rfl
  · rw [State.tellOwner_of_ne hc]
    dsimp only
    unfold State.diagEnd
    simp only [hd, finishDiag_eq]
    exact State.release_of (s := s.setMgmt _) (h.resolve_right hc) hf

theorem tellOwner_diag_format {d : DiagOp} {t : Fin 64} (hd : s.mgmt.diag = some d) (hf : s.bridge.state = .format) (hn : s.NoneWaits)
    (ht : s.mem.NextTag t) (e : MemEnd) : s.tellOwner .diag e = (diagEnded s d e).drained t := by
  rw [State.tellOwner_of_ne (by simp [hf])]
  dsimp only
  unfold State.diagEnd
  simp only [hd, finishDiag_eq]
  exact State.release_format (s := s.setMgmt _) hn hf ht

/-! ### A diagnostic operation at entry into CONTAIN (R74, R170, R184) -/

theorem containOwner_mgmt {l : List Owner} {o : Owner} (h : o ≠ .diag) (u : State) : (State.containOwner l u o).mgmt = u.mgmt :=
  (told_containOwner l u o).mgmt h

/-- Of the owners told one after the other only the diagnostic operation changes the staging pair, and it does so once. -/
theorem containOwners_mgmt {l : List Owner} {f : Mgmt → Mgmt} (hf : ∀ u, (State.containOwner l u .diag).mgmt = f u.mgmt)
    (hff : ∀ m, f (f m) = f m) (os : List Owner) (u : State) :
    (os.foldl (State.containOwner l) u).mgmt = if .diag ∈ os then f u.mgmt else u.mgmt := by
  induction os generalizing u with
  | nil => rfl
  | cons o os ih =>
    rw [List.foldl_cons, ih]
    by_cases ho : o = .diag
    · subst ho
      by_cases hos : Owner.diag ∈ os <;> simp [hos, hf, hff]
    · have hne : ¬Owner.diag = o := fun h => ho h.symm
      simp only [containOwner_mgmt ho, List.mem_cons, hne, false_or]

/-- What stands in the staging pair once every owner has been told. -/
theorem ownersTold_mgmt {f : Mgmt → Mgmt} (hf : ∀ u, (State.containOwner s.waitingOwners u .diag).mgmt = f u.mgmt)
    (hff : ∀ m, f (f m) = f m) (h : .diag ∈ s.waitingOwners ∨ .diag ∈ s.mem.deferred.map (·.owner)) :
    (ownersTold s).mgmt = f s.mgmt := by
  let quiet := s.waitingOwners.filter (· ≠ .engine)
  let loud := arrange (fun o => Config.order s.free o.number) (s.waitingOwners.filter (· = .engine) ++ s.mem.deferred.map (·.owner))
  have hquiet := containOwners_mgmt hf hff quiet ((quieted s).setHostOut [])
  have hmem : Owner.diag ∈ quiet ∨ Owner.diag ∈ loud := by
    rcases h with h | h
    · exact .inl (List.mem_filter.mpr ⟨h, rfl⟩)
    · exact .inr (mem_arrange.mpr (List.mem_append_right _ h))
  refine (containOwners_mgmt hf hff loud _).trans ?_
  rw [hquiet]
  change (if _ then f (if _ then f s.mgmt else s.mgmt) else if _ then f s.mgmt else s.mgmt) = _
  by_cases hq : Owner.diag ∈ quiet <;> by_cases hl : Owner.diag ∈ loud <;> simp_all

/-- The staging pair with busy clear. -/
def idleDiag (m : Mgmt) : Mgmt := { m with diag := none }

/-- The staging pair after an operation, if one is in progress, has ended as TIMEOUT. -/
def timedOutDiag (m : Mgmt) : Mgmt :=
  match m.diag with
  | some d => { m with fill := if d.kind = .fetch then fetchBuffer d.line .timeout else m.fill, diag := none }
  | none => m

theorem timedOutDiag_twice (m : Mgmt) : timedOutDiag (timedOutDiag m) = timedOutDiag m := by
  unfold timedOutDiag
  cases h : m.diag with
  | none => simp only [h]
  | some d => rfl

theorem diagContainEnd_mgmt (u : State) : (u.diagContainEnd .timeout).mgmt = timedOutDiag u.mgmt := by
  unfold State.diagContainEnd timedOutDiag
  cases h : u.mgmt.diag with
  | none => rfl
  | some d => simp only [finishDiag_eq]; rfl

/-- A diagnostic operation told of a TIMEOUT keeps no hold, as far as it was in progress. -/
theorem containOwners_noDiag {l : List Owner} (hl : .diag ∉ l) {os : List Owner} (hos : .diag ∈ os) {u : State} {d : DiagOp}
    (hd : u.mgmt.diag = some d) : ∀ e ∈ (os.foldl (State.containOwner l) u).order.entries, e.owner ≠ .diag := by
  induction os generalizing u with
  | nil => cases hos
  | cons o os ih =>
    rw [List.foldl_cons]
    by_cases ho : o = .diag
    · subst ho
      intro e he
      have hsub := (told_containOwners l os (State.containOwner l u .diag)).entries.subset he
      have hend : State.containOwner l u .diag = u.diagContainEnd .timeout := if_neg (by simpa using hl)
      rw [hend] at hsub
      unfold State.diagContainEnd at hsub
      simp only [hd, finishDiag_eq] at hsub
      simpa using (List.mem_filter.mp hsub).2
    · refine ih ((List.mem_cons.mp hos).resolve_left fun h => ho h.symm) ?_
      rw [containOwner_mgmt ho]
      exact hd

/-- Settles O57: the operation's end by the state of the bridge; at entry into CONTAIN, by what waits and what is deferred. -/
theorem diagnosticsEnd : Obligations.DiagnosticsEnd := by
  intro s d g t line hd ended read lost
  have hread {u : State} (hu : u.mgmt = s.mgmt) (ho : u.order = s.order) (hk : d.kind = .fetch) (w : Codeword) :
      diagEnded u d (.read w (classify w)) = ended u (read w) := by
    simp only [diagEnded, ended, hu, ho, if_pos hk, read, fetchBuffer]
    cases classify w <;> rfl
  have hack {u : State} (hu : u.mgmt = s.mgmt) (ho : u.order = s.order) (hk : d.kind ≠ .fetch) :
      diagEnded u d .ack = ended u s.mgmt.fill := by
    simp only [diagEnded, ended, hu, ho, if_neg hk]
  have hlost : diagEnded s d .timeout = ended s lost := rfl
  refine ⟨fun hf h => ⟨fun w hk ha => ?_, fun v hk ha => ?_, fun kind ha => ?_⟩,
    fun hf hn => ⟨fun w hk ha ht => ?_, fun v hk ha ht => ?_, fun kind ha ht => ?_⟩, fun hreset hb => ?_⟩
  · rw [exec_readData w ha, tellOwner_diag (s := s.answered g) hd hf h, hread (u := s.answered g) rfl rfl hk]
  · rw [exec_writeAck ha, tellOwner_diag (s := s.answered g) hd hf h, hack (u := s.answered g) rfl rfl hk]
  · rw [exec_timeout ha, tellOwner_diag hd hf h, hlost]
    rfl
  · rw [exec_readData w ha, tellOwner_diag_format (s := s.answered g) hd hf hn ht, hread (u := s.answered g) rfl rfl hk]
  · rw [exec_writeAck ha, tellOwner_diag_format (s := s.answered g) hd hf hn ht, hack (u := s.answered g) rfl rfl hk]
  · rw [exec_timeout ha, tellOwner_diag_format hd hf hn ht, hlost]
    rfl
  · have hexec := exec_forceContain_of_serving hreset hb
    let w := s.enterContainControl ⟨.forced, none⟩
    have hwait : w.waitingOwners = (s.order.entries.filter fun x => !x.active).map (·.owner) := rfl
    refine ⟨fun hwaits hnot => ⟨_, hexec, ?_⟩, fun hact hdef => ⟨_, hexec, ?_, ?_⟩⟩
    · have hmem : Owner.diag ∈ w.waitingOwners := by
        obtain ⟨e, he, ho, ha⟩ := hwaits
        exact hwait ▸ List.mem_map.mpr ⟨e, List.mem_filter.mpr ⟨he, by simp [ha]⟩, ho⟩
      have htold := ownersTold_mgmt (s := w) (f := idleDiag) (fun u => congrArg State.mgmt (if_pos (by simpa using hmem)))
        (fun _ => rfl) (.inl hmem)
      exact congrArg (fun m : Mgmt => { m with reply := ⟨.done, []⟩ }) htold
    all_goals
      have hnone : Owner.diag ∉ w.waitingOwners := by
        rw [hwait]
        intro hmem
        obtain ⟨e, he, ho⟩ := List.mem_map.mp hmem
        obtain ⟨he, ha⟩ := List.mem_filter.mp he
        simp [hact e he ho] at ha
      have hmem : Owner.diag ∈ w.mem.deferred.map (·.owner) := by
        obtain ⟨r, hr, ho⟩ := hdef
        exact List.mem_map.mpr ⟨r, hr, ho⟩
      have hend (u : State) : State.containOwner w.waitingOwners u .diag = u.diagContainEnd .timeout :=
        if_neg (by simpa using hnone)
      have hfold := fun (u : State) => (congrArg State.mgmt (hend u)).trans (diagContainEnd_mgmt u)
    · have htold := ownersTold_mgmt (s := w) (f := timedOutDiag) hfold timedOutDiag_twice (.inr hmem)
      have hleft : timedOutDiag s.mgmt = { s.mgmt with fill := lost, diag := none } := by
        simp only [timedOutDiag, hd]
        rfl
      exact congrArg (fun m : Mgmt => { m with reply := ⟨.done, []⟩ }) (htold.trans hleft)
    · have hquiet := containOwners_mgmt hfold timedOutDiag_twice (w.waitingOwners.filter (· ≠ .engine)) ((quieted w).setHostOut [])
      rw [if_neg fun h => hnone (List.mem_filter.mp h).1] at hquiet
      exact containOwners_noDiag hnone (mem_arrange.mpr (List.mem_append_right _ hmem)) ((congrArg Mgmt.diag hquiet).trans hd)

end Sys2Proof.Proofs
end

section
/-! START: STANDBY left for ONLINE or FORMAT (R132, R133), and the writes of the format (R133, R134). -/

-- Fewer threads at once: each takes a part of the memory that a check of the whole text may use.
set_option Elab.async false

namespace Sys2Proof.Proofs

open Sys2Proof Sys2Proof.Machine

variable {s : State}

/-! ### Entry into FORMAT (R75, R170) -/

theorem raiseStuck_eq (s : State) :
    s.raiseStuck =
      { s with
        bridge :=
          { s.bridge with
            fromMemory := s.bridge.fromMemory ++ if 28 ≤ s.mem.quarantine.length then [⟨.dsStuck, none⟩] else [] } } := by
  unfold State.raiseStuck
  by_cases h : 28 ≤ s.mem.quarantine.length
  · rw [if_pos h, if_pos h]
    rfl
  · rw [if_neg h, if_neg h, List.append_nil]

/-- FORMAT entered, as Bridge Control leaves it before the owners are told. -/
theorem formatEntered_eq (s : State) :
    formatEntered s =
      { s.changeBridge .format with
        bridge :=
          { (s.changeBridge .format).bridge with
            cursor := some ⟨0, true⟩
            fromMemory := (s.changeBridge .format).bridge.fromMemory ++
              if 28 ≤ s.mem.quarantine.length then [⟨.dsStuck, none⟩] else [] } } :=
  raiseStuck_eq _

/-- The state in which the owners are told: what stood ACTIVE stands, and nothing is deferred. -/
def formatQuieted (s : State) : State := (formatEntered s).withdrawWaiting.clearDeferred

theorem enterFormat_eq (s : State) :
    s.enterFormat =
      ((s.mem.deferred.map (·.owner)).foldl (fun u o => u.tellOwner o .timeout)
        (s.waitingOwners.foldl State.withdrawn (formatQuieted s))).formatNotice := by
  unfold State.enterFormat formatQuieted
  dsimp only
  have hw : (formatEntered s).waitingOwners = s.waitingOwners := by rw [formatEntered_eq]; rfl
  have hd : (formatEntered s).mem.deferred = s.mem.deferred := by rw [formatEntered_eq]; rfl
  change ((((formatEntered s).mem.deferred.map (·.owner)).foldl (fun u o => u.tellOwner o .timeout)
        ((formatEntered s).waitingOwners.foldl State.withdrawn (formatEntered s).withdrawWaiting.clearDeferred)).formatNotice) = _
  rw [hw, hd]

theorem formatQuieted_eq {l : List Hold} (h : s.order.entries.filter (·.active) = l) :
    formatQuieted s =
      { formatEntered s with order := { s.order with entries := l }, mem := { s.mem with deferred := [] } } := by
  subst h
  unfold formatQuieted
  rw [formatEntered_eq]
  rfl

theorem exec_startFormat (hreset : s.resetLow = false) (hb : s.bridge.state = .standby) :
    exec .startFormat s = .next (s.enterFormat.reply .accepted []) :=
  (State.unlessHeld_of_high hreset _).trans (if_neg (not_not.mpr hb))

theorem waitingOwners_of_noneWaits (h : s.NoneWaits) : s.waitingOwners = [] := by
  unfold State.waitingOwners
  rw [List.filter_eq_nil_iff.mpr fun e he => by simp [h e he]]
  rfl

theorem active_of_noneWaits (h : s.NoneWaits) : s.order.entries.filter (·.active) = s.order.entries :=
  List.filter_eq_self.mpr h

theorem engineEnd_of_testing {j : TestJob} (h : s.engine = .testing j) (e : MemEnd) : s.engineEnd e = s.testEnd j e := by
  unfold State.engineEnd
  simp only [h]

/-- In FORMAT a spare test's operation ends it ABANDONED, and the cursor has its notice (R57, R58, R75). -/
theorem testEnd_format {j : TestJob} {t : Fin 64} (hb : s.bridge.state = .format) (hn : s.NoneWaits) (ht : s.mem.NextTag t)
    (e : MemEnd) : s.testEnd j e = (s.testEnded j.index .abandoned j.before).drained t := by
  unfold State.testEnd State.endTest
  rw [if_pos hb, State.release_format hn hb ht, finishTest_drained]
  rfl

/-- Settles O40: `enterFormat` by what waits and what is deferred. -/
theorem startLeavesStandby : Obligations.StartLeavesStandby := by
  intro s hreset
  refine ⟨fun hb => ⟨(State.unlessHeld_of_high hreset _).trans (if_pos hb), (State.unlessHeld_of_high hreset _).trans (if_pos hb)⟩,
    fun hb => ⟨?_, ?_⟩⟩
  · refine ((State.unlessHeld_of_high hreset _).trans (if_neg (not_not.mpr hb))).trans ?_
    unfold State.raiseStuck
    rfl
  intro t ht entered answers
  have hentered : formatEntered s = entered := formatEntered_eq s
  have hanswers {u : State} (h : s.enterFormat = u.drained t) : answers u := by
    change exec .startFormat s = _
    rw [exec_startFormat hreset hb, h]
  have hnotice {u : State} (hf : u.bridge.state = .format) (hm : u.mem.NextTag t) : u.formatNotice = u.drained t :=
    State.formatNotice_eq hf hm
  refine ⟨fun hn hd => hanswers ?_, ?_, ?_⟩
  · rw [enterFormat_eq, waitingOwners_of_noneWaits hn, hd, formatQuieted_eq (active_of_noneWaits hn), hentered]
    have hsame : ({ entered with order := s.order, mem := { s.mem with deferred := [] } } : State) = entered := by
      rw [← hd]
      rfl
    rw [← hsame]
    exact hnotice rfl ht
  · intro pre e post hent he hothers hd u
    obtain ⟨hwait, hstand⟩ := filter_waiting he hothers
    have howners : s.waitingOwners = [e.owner] := by
      unfold State.waitingOwners
      rw [hent, hwait]
      rfl
    have hquieted : formatQuieted s = u := by
      rw [formatQuieted_eq (hent ▸ hstand), hentered, ← hd]
      rfl
    have htold : s.enterFormat = (u.withdrawn e.owner).formatNotice := by
      rw [enterFormat_eq, howners, hd, hquieted]
      rfl
    refine ⟨fun ho => hanswers ?_, fun j ho hj => hanswers ?_⟩
    · rw [htold, ho]
      exact hnotice rfl ht
    · rw [htold, ho, withdrawn_testing (s := u) hj]
      exact hnotice rfl ht
  · intro k line hn u
    have hquieted : formatQuieted s = u := by
      rw [formatQuieted_eq (active_of_noneWaits hn), hentered]
      rfl
    have htold {o : Owner} (hd : s.mem.deferred = [⟨o, k, line⟩]) : s.enterFormat = (u.tellOwner o .timeout).formatNotice := by
      rw [enterFormat_eq, waitingOwners_of_noneWaits hn, hd, hquieted]
      rfl
    refine ⟨fun d hd hdiag => hanswers ?_, fun j hd hj => hanswers ?_⟩
    · rw [htold hd, tellOwner_diag_format (s := u) hdiag rfl hn ht]
      exact formatNotice_drained rfl
    · rw [htold hd, State.tellOwner_of_ne (by exact BridgeState.noConfusion)]
      refine (congrArg State.formatNotice ((engineEnd_of_testing (s := u) hj _).trans (testEnd_format (s := u) rfl hn ht _))).trans ?_
      exact formatNotice_drained rfl

/-! ### The writes of the format (R133, R134) -/

theorem formatEnd_eq {n : Nat} (hc : s.bridge.cursor = some ⟨n, false⟩) (e : MemEnd) :
    s.formatEnd e =
      match e with
      | .ack => if n + 1 = s.P * 64 then s.formatDone else s.formatWrite (n + 1)
      | .timeout => s.formatWrite n
      | .read _ _ => s := by
  cases e <;> simp only [State.formatEnd, hc]

/-- The same line is asked for again with the cursor as it stands. -/
theorem formatWrite_same {n : Nat} (hc : s.bridge.cursor = some ⟨n, false⟩) :
    s.formatWrite n = s.issue ⟨.format, .mwr (encode Data.zero), n⟩ := by
  unfold State.formatWrite
  rw [← hc]
  rfl

/-- Settles O41: `formatEnd` at an acknowledgement and at a timeout; in CONTAIN the write ends with nothing further. -/
theorem formatWritesEveryLine : Obligations.FormatWritesEveryLine := by
  intro s n g t line zeros
  have hzeros : MemKind.mwr (encode Data.zero) = zeros := congrArg _ encode_zero
  refine ⟨fun hb hc => ⟨fun w ha => ⟨fun hne hcan => ?_, fun hlast => ?_⟩, fun kind ha => ⟨fun hcan => ?_, fun hq => ?_⟩⟩,
    fun hb => ⟨fun w ha => ?_, fun kind ha => ?_⟩⟩
  · rw [exec_writeAck ha, State.tellOwner_of_ne (s := s.answered g) (by simp [State.answered, hb])]
    refine congrArg _ ((formatEnd_eq (s := s.answered g) hc .ack).trans ((if_neg hne).trans ?_))
    unfold State.formatWrite
    rw [hzeros]
    exact State.issue_of_canIssue (s := (s.answered g).setBridge { s.bridge with cursor := some ⟨n + 1, false⟩ }) (hcan.of rfl rfl) _
  · rw [exec_writeAck ha, State.tellOwner_of_ne (s := s.answered g) (by simp [State.answered, hb])]
    exact congrArg _ ((formatEnd_eq (s := s.answered g) hc .ack).trans (if_pos hlast))
  · rw [exec_timeout ha, State.tellOwner_of_ne (by simp [hb])]
    refine congrArg (fun u => Host.Outcome.next (State.timedOut u g kind line .format)) ?_
    rw [← hzeros]
    exact (formatEnd_eq hc .timeout).trans ((formatWrite_same hc).trans (State.issue_of_canIssue hcan _))
  · rw [exec_timeout ha, State.tellOwner_of_ne (by simp [hb])]
    refine congrArg (fun u => Host.Outcome.next (State.timedOut u g kind line .format)) ?_
    rw [← hzeros]
    refine (formatEnd_eq hc .timeout).trans ((formatWrite_same hc).trans ?_)
    unfold State.issue
    rw [if_neg (by simp [hb]), if_pos hq]
    rfl
  · rw [exec_writeAck ha, tellOwner_of_contain (s := s.answered g) hb]
    rfl
  · rw [exec_timeout ha, tellOwner_of_contain hb]
    rfl

end Sys2Proof.Proofs
end

section
/-! The ends of host operations: reads answered, writes acknowledged, timeouts (R81 to R97, R167). -/

-- Fewer threads at once: each takes a part of the memory that a check of the whole text may use.
set_option Elab.async false

namespace Sys2Proof.Proofs

open Sys2Proof Sys2Proof.Machine

variable {s u : State} {op : HostOp} {p : Nat} {t : Fin 64}

/-! ### The owner told -/

theorem tellOwner_host (hb : s.bridge.state ≠ .contain) (hop : s.opOf op.tag = some op) (e : MemEnd) :
    s.tellOwner (.host op.tag) e =
      match e with
      | .read _ r => s.hostRead op r
      | .ack => s.hostAck op
      | .timeout => s.hostTimeout op := by
  rw [State.tellOwner_of_ne hb]
  cases e <;> simp only [State.hostEnd, hop]

theorem tellOwner_host_contain (hb : s.bridge.state = .contain) (hop : s.opOf op.tag = some op) (e : MemEnd) :
    s.tellOwner (.host op.tag) e = (s.hostContainReply op e).opEnded op := by
  rw [tellOwner_of_contain hb, ← State.endHostOp_eq]
  unfold State.endInContain
  simp only [hop]

/-! ### Response, release and write -/

theorem answeredTo_order (s : State) (op : HostOp) (st : RespStatus) (d : Data) : (s.answeredTo op st d).order = s.order := by
  rw [← State.respond_eq, State.respond_order]

theorem answeredTo_bridge (s : State) (op : HostOp) (st : RespStatus) (d : Data) : (s.answeredTo op st d).bridge = s.bridge := by
  rw [← State.respond_eq, State.respond_bridge]

theorem answeredTo_mem (s : State) (op : HostOp) (st : RespStatus) (d : Data) : (s.answeredTo op st d).mem = s.mem := by
  rw [← State.respond_eq, (told_respond (w := .format) s op st d).mem]

theorem answeredTo_mgmt (s : State) (op : HostOp) (st : RespStatus) (d : Data) : (s.answeredTo op st d).mgmt = s.mgmt := by
  rw [← State.respond_eq, (told_respond (w := .format) s op st d).mgmt Owner.noConfusion]

theorem opEnded_mem (s : State) (op : HostOp) : (s.opEnded op).mem = s.mem := by
  rw [← State.endHostOp_eq, (told_endHostOp (w := .format) s op).mem]

theorem opEnded_mgmt (s : State) (op : HostOp) : (s.opEnded op).mgmt = s.mgmt := by
  rw [← State.endHostOp_eq, (told_endHostOp (w := .format) s op).mgmt Owner.noConfusion]

/-- While no hold waits, and outside FORMAT, a response with its release ends the operation. -/
theorem respondAndRelease_eq (hn : u.NoneWaits) (hf : u.bridge.state ≠ .format) (op : HostOp) (st : RespStatus) (d : Data) :
    u.respondAndRelease op st d = (u.answeredTo op st d).opEnded op := by
  unfold State.respondAndRelease
  rw [State.respond_eq]
  refine State.releaseHostOp_eq op ?_ ?_
  · rw [State.NoneWaits, answeredTo_order]
    exact hn
  · rwa [answeredTo_bridge]

theorem hostWrite_eq (hp : op.phys = some p) (hc : u.CanIssue t) (phase : HostPhase) (w : Codeword) :
    u.hostWrite op phase w = (u.withOp { op with phase := phase }).issued t (.host op.tag) (.mwr w) p := by
  unfold State.hostWrite
  rw [hp]
  exact State.issue_of_canIssue (s := u.putOp _) (hc.of rfl rfl) _

/-! ### Reports and transients (R84, R92) -/

theorem hostReported_keeps (s : State) (k : ReportKind) (p : Nat) :
    (s.hostReported k p).order = s.order ∧ (s.hostReported k p).bridge = s.bridge ∧ (s.hostReported k p).mem = s.mem := by
  unfold State.hostReported
  split <;> exact ⟨rfl, rfl, rfl⟩

/-- What a read that ends in the retry phase records, or else the report of its outcome. -/
def recorded (s : State) (op : HostOp) (p : Nat) (k : ReportKind) : State :=
  if op.phase = .retry then s.hostTransientRecorded p op.attempts
  else match k with
    | .corrected _ => s.hostReported k p
    | _ => s

theorem recorded_keeps (s : State) (op : HostOp) (p : Nat) (k : ReportKind) :
    (recorded s op p k).order = s.order ∧ (recorded s op p k).bridge = s.bridge ∧ (recorded s op p k).mem = s.mem := by
  unfold recorded
  split
  · exact hostReported_keeps s .transient p
  · split
    · exact hostReported_keeps s _ p
    · exact ⟨rfl, rfl, rfl⟩

theorem recorded_corrected (s : State) (op : HostOp) (p k : Nat) :
    recorded s op p (.corrected k) =
      if op.phase = .retry then s.hostTransientRecorded p op.attempts else s.hostReported (.corrected k) p := rfl

/-! ### A read that ends (R81 to R86, R90) -/

theorem hostRead_clean (hp : op.phys = some p) (d : Data) :
    s.hostRead op (.clean d) =
      if op.req = .rd then (recorded s op p .transient).respondAndRelease op .ok d
      else (recorded s op p .transient).hostMerge op d := by
  unfold State.hostRead recorded
  simp only [hp, Option.getD_some, State.hostTransient_eq]

theorem hostRead_corrected (hp : op.phys = some p) (k : Nat) (v : Codeword) :
    s.hostRead op (.corrected k v) =
      if op.req = .rd then (recorded s op p (.corrected k)).hostWriteBack op v
      else (recorded s op p (.corrected k)).hostMerge op v.data := by
  unfold State.hostRead recorded
  simp only [hp, Option.getD_some, State.hostTransient_eq, State.hostReport_eq]

/-- A read that ends in CONTAIN is answered by the table of R96. -/
theorem hostContainReply_read (hp : op.phys = some p) (hphase : op.phase = .read ∨ op.phase = .retry) (w : Codeword) (r : ReadResult) :
    s.hostContainReply op (.read w r) =
      match r with
      | .clean d =>
        (recorded s op p .transient).answeredTo op (if op.req = .rd then .ok else .failed) (if op.req = .rd then d else Data.zero)
      | .corrected k v =>
        (recorded s op p (.corrected k)).answeredTo op (if op.req = .rd then .corrected else .failed)
          (if op.req = .rd then v.data else Data.zero)
      | .poison => s.answeredTo op .poisoned Data.zero
      | .uncorrectable => s.answeredTo op .failed Data.zero := by
  unfold State.hostContainReply
  rcases hphase with hphase | hphase <;> cases r <;>
    simp only [hphase, hp, Option.getD_some, State.hostTransient_eq, State.hostReport_eq, State.respond_eq, recorded, if_true,
      reduceCtorEq, if_false] <;>
    by_cases hreq : op.req = .rd <;> simp only [hreq, if_true, if_false]

/-- While no hold waits the operation of a read recorded ends with its response. -/
theorem recorded_respondAndRelease (hn : s.NoneWaits) (hf : s.bridge.state ≠ .format) (op : HostOp) (p : Nat) (k : ReportKind)
    (st : RespStatus) (d : Data) :
    (recorded s op p k).respondAndRelease op st d = ((recorded s op p k).answeredTo op st d).opEnded op := by
  obtain ⟨ho, hb, -⟩ := recorded_keeps s op p k
  refine respondAndRelease_eq ?_ ?_ op st d
  · rw [State.NoneWaits, ho]
    exact hn
  · rwa [hb]

theorem recorded_canIssue (hc : s.CanIssue t) (op : HostOp) (p : Nat) (k : ReportKind) : (recorded s op p k).CanIssue t := by
  obtain ⟨-, hb, hm⟩ := recorded_keeps s op p k
  exact hc.of (congrArg Bridge.state hb) hm

theorem hostWriteBack_eq (hp : op.phys = some p) (hc : u.CanIssue t) (v : Codeword) :
    u.hostWriteBack op v =
      ((u.answeredTo op .corrected v.data).withOp { op with phase := .writeback, responseSent := !op.orphan }).issued t
        (.host op.tag) (.mwr v) p := by
  unfold State.hostWriteBack
  rw [State.respond_eq]
  exact hostWrite_eq (op := { op with responseSent := !op.orphan }) hp
    (hc.of (congrArg Bridge.state (answeredTo_bridge u op _ _)) (answeredTo_mem u op _ _)) .writeback v

/-- Settles O25: each outcome of the read, in service and in CONTAIN. -/
theorem readAnswered : Obligations.ReadAnswered := by
  intro s op p g t line w hop hp hphase ha a rec
  have hexec := exec_readData w ha
  refine ⟨fun hb hn hreq => ?_, fun hb => ?_⟩
  · obtain ⟨hc, hf, -⟩ := State.inService_of hb
    rw [hexec, tellOwner_host (s := a) hc hop]
    refine ⟨fun d hw => ?_, fun hw => ?_, fun k v hw hcan => ?_⟩ <;> dsimp only <;> rw [hw]
    · rw [hostRead_clean hp, if_pos hreq, recorded_respondAndRelease (s := a) hn hf]
      rfl
    · exact congrArg _ (respondAndRelease_eq (u := a) hn hf op .poisoned Data.zero)
    · rw [hostRead_corrected hp, if_pos hreq, hostWriteBack_eq hp (recorded_canIssue hcan op p _)]
      rfl
  · intro data status
    rw [hexec, tellOwner_host_contain (s := a) hb hop, hostContainReply_read hp hphase]
    cases classify w <;> rfl

/-- Settles O26: `hostUncorrectable` below the limit of retries, then `hostFinal` by UE_POLICY. -/
theorem uncorrectableReadHandled : Obligations.UncorrectableReadHandled := by
  intro s op p g t line w hb hop hp hphase ha hw a final
  obtain ⟨hc, hf, -⟩ := State.inService_of hb
  have hexec : exec (.readData s.mem.generation g w) s = .next (a.hostUncorrectable op) := by
    rw [exec_readData w ha, tellOwner_host (s := a) hc hop, hw]
    rfl
  have hrecord (u : State) (x : UeAction) :
      ((u.hostReport .uncorrectable p).logEvent (.uncorrectable p (some op.line) x)).count Counters.bumpUeFinal = final u x := by
    rw [State.hostReport_eq]
  refine ⟨fun hretry hcan => ?_, fun hlast => ⟨fun hpol hcan => ?_, fun hpol hn => ?_⟩⟩ <;> rw [hexec] <;>
    unfold State.hostUncorrectable
  · rw [if_pos (by exact hretry), hp]
    exact congrArg _ (State.issue_of_canIssue (s := State.count (a.putOp _) _) (hcan.of rfl rfl) _)
  all_goals
    rw [if_neg (Nat.not_lt.mpr (by exact hlast))]
    unfold State.hostFinal
    simp only [show a.mgmt.params.uePolicy = _ from hpol, hp, Option.getD_some, hrecord]
  · rw [hostWrite_eq hp hcan, hp]
    rfl
  · obtain ⟨ho, hbr, -⟩ := hostReported_keeps (a.answeredTo op .failed Data.zero) .uncorrectable p
    have hend : (final (a.answeredTo op .failed Data.zero) .hostContained).releaseHostOp op =
        (final (a.answeredTo op .failed Data.zero) .hostContained).opEnded op := by
      refine State.releaseHostOp_eq op ?_ ?_
      · change ∀ e ∈ ((a.answeredTo op .failed Data.zero).hostReported .uncorrectable p).order.entries, _
        rw [ho, answeredTo_order]
        exact hn
      · change ((a.answeredTo op .failed Data.zero).hostReported .uncorrectable p).bridge.state ≠ _
        rw [hbr, answeredTo_bridge]
        exact hf
    rw [State.respond_eq, hend]
    rfl

/-- Settles O27: each byte of the merged line, and the write of it. -/
theorem partialWriteMerges : Obligations.PartialWriteMerges := by
  intro s op d m p g t line w hb hop hreq hp hphase ha a
  obtain ⟨hc, hf, -⟩ := State.inService_of hb
  have hexec := exec_readData w ha
  rw [tellOwner_host (s := a) hc hop] at hexec
  have hrd : op.req ≠ .rd := by simp [hreq]
  have hmerge {v : State} (hcan : v.CanIssue t) (old : Data) :
      v.hostMerge op old = (v.withOp { op with phase := .dataWrite }).issued t (.host op.tag) (.mwr (encode (mergeData m d old))) p := by
    unfold State.hostMerge
    simp only [hreq]
    have := hostWrite_eq hp hcan .dataWrite (encode (mergeData m d old))
    rwa [hreq] at this
  refine ⟨fun old u hcan h => ⟨mergeData m d old, mergeData_getElem m d old, ?_⟩, fun hw hn => ?_⟩
  · rcases h with ⟨hw, hu⟩ | ⟨k, v, hw, rfl, hu⟩
    · have hrec : recorded a op p .transient = u := hu.symm
      dsimp only at hexec
      rw [hexec, hw, hostRead_clean hp, if_neg hrd, ← hrec, hmerge (recorded_canIssue hcan op p _)]
    · have hrec : recorded a op p (.corrected k) = u := hu.symm
      dsimp only at hexec
      rw [hexec, hw, hostRead_corrected hp, if_neg hrd, ← hrec, hmerge (recorded_canIssue hcan op p _)]
  · dsimp only at hexec
    rw [hexec, hw]
    exact congrArg _ (respondAndRelease_eq (u := a) hn hf op .poisoned Data.zero)

/-! ### Writes acknowledged (R82, R85, R88, R90) and timeouts (R87) -/

theorem hostAck_dataWrite (h : op.phase = .dataWrite) (s : State) : s.hostAck op = s.respondAndRelease op .ok Data.zero := by
  simp only [State.hostAck, h]

theorem hostAck_poisonWrite (h : op.phase = .poisonWrite) (s : State) : s.hostAck op = s.respondAndRelease op .poisoned Data.zero := by
  simp only [State.hostAck, h]

theorem hostAck_writeback (h : op.phase = .writeback) (s : State) : s.hostAck op = s.releaseHostOp op := by
  simp only [State.hostAck, h]

theorem opEnded_of_not_orphan (h : op.orphan = false) (s : State) : s.opEnded op = s.hostDone op.tag :=
  if_neg (by simp [h])

/-- Settles O28: the phase decides the response; an orphan's is none, and the last one's end returns the port to UP. -/
theorem hostWriteAcknowledged : Obligations.HostWriteAcknowledged := by
  intro s op g line w hop ha a data
  have hexec := exec_writeAck ha
  refine ⟨fun hb hn => ?_, fun hb => ?_⟩
  · obtain ⟨hc, hf, -⟩ := State.inService_of hb
    rw [tellOwner_host (s := a) hc hop] at hexec
    dsimp only at hexec
    have hdata (h : op.phase = .dataWrite) : a.hostAck op = (a.answeredTo op .ok Data.zero).opEnded op :=
      (hostAck_dataWrite h a).trans (respondAndRelease_eq (u := a) hn hf op _ _)
    have hpoison (h : op.phase = .poisonWrite) : a.hostAck op = (a.answeredTo op .poisoned Data.zero).opEnded op :=
      (hostAck_poisonWrite h a).trans (respondAndRelease_eq (u := a) hn hf op _ _)
    have hback (h : op.phase = .writeback) : a.hostAck op = a.opEnded op :=
      (hostAck_writeback h a).trans (State.releaseHostOp_eq (s := a) op hn hf)
    refine ⟨fun ho => ⟨fun h => ?_, fun h => ?_, fun h => ?_⟩, fun ho h => ?_⟩
    · rw [hexec, hdata h, opEnded_of_not_orphan ho, ← State.respond_eq, State.respond_of ho]
      rfl
    · rw [hexec, hpoison h, opEnded_of_not_orphan ho, ← State.respond_eq, State.respond_of ho]
      rfl
    · rw [hexec, hback h, opEnded_of_not_orphan ho]
    · intro u
      have hend : a.hostAck op = a.opEnded op := by
        have hsilent (st : RespStatus) : a.answeredTo op st Data.zero = a := if_pos ho
        rcases h with h | h | h
        · rw [hdata h, hsilent]
        · rw [hpoison h, hsilent]
        · exact hback h
      have hlast : a.opEnded op = if ∃ o ∈ u.ops, o.orphan = true then u
          else State.logEvent { u with link := { u.link with quiesce := false } } (.portQuiesced u.order.finished) := if_pos ho
      refine ⟨fun hmore => ?_, fun hnone => ?_⟩
      · rw [hexec, hend, hlast, if_pos hmore]
      · rw [hexec, hend, hlast, if_neg (by rintro ⟨o, hmem, horphan⟩; simp [hnone o hmem] at horphan)]
        rfl
  · rw [tellOwner_host_contain (s := a) hb hop] at hexec
    refine ⟨fun h => ?_, fun h => ?_⟩ <;> rw [hexec] <;> unfold State.hostContainReply
    · rcases h with h | h <;> simp only [h, State.respond_eq] <;> rfl
    · simp only [h]

/-- Settles O51: the phase decides how the owner ends, and the timeout is counted after it. -/
theorem hostTimeoutQuarantines : Obligations.HostTimeoutQuarantines := by
  intro s op g kind line hb hop hphase ha ended faults counted
  have hended : s.tellOwner (.host op.tag) .timeout = ended := by
    rcases hb with hb | ⟨hb, hn⟩
    · rw [tellOwner_host_contain hb hop]
      unfold State.hostContainReply
      simp only [ended, hb, if_true, State.respond_eq]
      cases h : op.phase with
      | waitHold => exact absurd h hphase
      | _ => rfl
    · obtain ⟨hc, hf, -⟩ := State.inService_of hb
      have hends (st : RespStatus) := respondAndRelease_eq hn hf op st Data.zero
      rw [tellOwner_host hc hop]
      dsimp only
      unfold State.hostTimeout
      simp only [ended, hc, if_false]
      cases h : op.phase with
      | waitHold => exact absurd h hphase
      | writeback => exact State.releaseHostOp_eq op hn hf
      | poisonWrite => exact hends .poisoned
      | _ => exact hends .failed
  have hkeep : ended.mem = s.mem ∧ ended.bridge = s.bridge ∧ ended.mgmt = s.mgmt := by
    have hanswer (st : RespStatus) (d : Data) : ((s.answeredTo op st d).opEnded op).mem = s.mem ∧
        ((s.answeredTo op st d).opEnded op).bridge = s.bridge ∧ ((s.answeredTo op st d).opEnded op).mgmt = s.mgmt :=
      ⟨(opEnded_mem _ op).trans (answeredTo_mem s op st d), (State.opEnded_bridge _ op).trans (answeredTo_bridge s op st d),
        (opEnded_mgmt _ op).trans (answeredTo_mgmt s op st d)⟩
    simp only [ended]
    cases op.phase with
    | writeback => exact ⟨opEnded_mem s op, State.opEnded_bridge s op, opEnded_mgmt s op⟩
    | _ => exact hanswer _ _
  obtain ⟨hm, hbr, hmg⟩ := hkeep
  rw [exec_timeout ha, hended]
  refine congrArg _ ?_
  simp only [counted, faults, ← hm, ← hbr, ← hmg]
  rfl

end Sys2Proof.Proofs
end

section
/-! The copy job: its start, its steps and its end (R43 to R54). -/

-- Fewer threads at once: each takes a part of the memory that a check of the whole text may use.
set_option Elab.async false

namespace Sys2Proof.Proofs

open Sys2Proof Sys2Proof.Machine

variable {s : State} {j : CopyJob} {t : Fin 64}

/-! ### The engine told (R48, R54, R56) -/

theorem tellOwner_copying (hc : s.bridge.state ≠ .contain) (hj : s.engine = .copying j) (e : MemEnd) :
    s.tellOwner .engine e =
      match e with
      | .read _ r => s.copyRead j r
      | .ack => s.copyAck j
      | .timeout => s.copyTimeout j := by
  rw [State.tellOwner_of_ne hc]
  cases e <;> simp only [State.engineEnd, hj]

/-- In CONTAIN what the engine's operation gave is discarded, unless a test ends with it. -/
theorem tellOwner_engine_contain (hb : s.bridge.state = .contain) (hj : ∀ j, s.engine ≠ .testing j) (e : MemEnd) :
    s.tellOwner .engine e = { s with order := s.order.without .engine } := by
  rw [tellOwner_of_contain hb]
  change s.engineContainEnd = _
  unfold State.engineContainEnd
  split
  · next j h => exact absurd h (hj j)
  · rfl

/-! ### A step's first read (R48) -/

/-- A step whose keys are free reads its source line. -/
theorem beginStep_eq (hhost : s.KeyFree (.host (j.region * 64 + j.cursor)))
    (hspare : s.KeyFree (.phys ((s.V + j.spare) * 64 + j.cursor))) (hsource : s.KeyFree (.phys (j.source * 64 + j.cursor)))
    (hcan : s.CanIssue t) :
    s.beginStep j =
      State.issued
        { s with
          engine := .copying { j with phase := .read, attempts := 1 }
          order := s.order.append (.host (j.region * 64 + j.cursor)) .engine true }
        t .engine .mrd (j.source * 64 + j.cursor) := by
  let u := s.setEngine (.copying { j with phase := .waitHold })
  refine State.requestHold_of_keyFree (s := u) hhost (State.heldBack_of_keyFree fun p hp e he => ?_) ?_
    (State.nextOwner_of_active (List.mem_append_right _ (List.mem_singleton_self _)) rfl rfl)
  · rcases List.mem_append.mp he with he | he
    · have htouched : p = (s.V + j.spare) * 64 + j.cursor ∨ p = j.source * 64 + j.cursor := by
        rcases List.mem_cons.mp hp with rfl | hp
        · exact .inl rfl
        · exact .inr (List.mem_singleton.mp hp)
      rcases htouched with rfl | rfl
      · exact hspare e he
      · exact hsource e he
    · rw [List.mem_singleton.mp he]
      exact Key.noConfusion
  · exact congrArg (fun v => (v, [])) (State.issue_of_canIssue (s :=
      { s with
        engine := .copying { j with phase := .read, attempts := 1 }
        order := s.order.append (.host (j.region * 64 + j.cursor)) .engine true })
      (hcan.of rfl rfl) ⟨.engine, .mrd, j.source * 64 + j.cursor⟩)

/-! ### The spare write of a step (R48, R49) -/

/-- The engine's progress does not matter to the Memory Port. -/
theorem issue_setEngine (hcan : s.CanIssue t) (e : EngineState) (r : IssueReq) :
    (s.setEngine e).issue r = State.issued { s with engine := e } t r.owner r.kind r.line :=
  State.issue_of_canIssue (s := s.setEngine e) (hcan.of rfl rfl) r

theorem writeSpare_eq (hcan : s.CanIssue t) (poison : Bool) (w : Codeword) :
    s.writeSpare j poison w =
      State.issued { s with engine := .copying { j with phase := .write, poison := poison } } t .engine (.mwr w)
        ((s.V + j.spare) * 64 + j.cursor) :=
  issue_setEngine hcan _ _

/-- Settles O17: each outcome of the source read. -/
theorem copyStepWritesSpare : Obligations.CopyStepWritesSpare := by
  intro s j g t line w hj ha hcan spare source write
  have hwrite (poison : Bool) (v : Codeword) : (s.answered g).writeSpare j poison v = write poison v := writeSpare_eq hcan poison v
  rw [exec_readData w ha, tellOwner_copying (s := s.answered g) hcan.1 hj]
  dsimp only
  unfold State.copyRead
  cases classify w with
  | clean d => exact congrArg _ (hwrite false (encode d))
  | corrected k v => exact congrArg _ (hwrite false v)
  | poison => exact congrArg _ (hwrite true _)
  | uncorrectable =>
    dsimp only
    by_cases hretry : j.attempts - 1 < s.mgmt.params.readRetries
    · rw [if_pos (by exact hretry), if_pos hretry]
      exact congrArg _ (issue_setEngine hcan _ _)
    · rw [if_neg (by exact hretry), if_neg hretry, hwrite]
      rfl

/-! ### The acknowledged spare write (R25, R26, R50, R53) -/

theorem advanceEntry_eq (poison : Bool) (e : MapEntry) :
    advanceEntry poison e =
      match e.state with
      | .live => e
      | .copying k q n => { e with state := .copying k q (n + 1), poisoned := e.poisoned + if poison then 1 else 0 } := by
  unfold advanceEntry
  cases e.state with
  | live => rfl
  | copying k q n => cases poison <;> rfl

/-- Settles O18: the hold is released, then the next step begins; in CONTAIN the release is all. -/
theorem copyStepAdvances : Obligations.CopyStepAdvances := by
  refine ⟨fun s j g t line w hj hcur ha hb hn hhost hspare hsource hcan => ?_, fun s g line hb hj =>
    ⟨fun w ha => ?_, fun w ha => ?_, fun kind ha => ?_⟩⟩
  · obtain ⟨hc, hf, -⟩ := State.inService_of hb
    let released : State :=
      { s.answered g with map := updateEntry s.map j.region (advanceEntry j.poison), order := s.order.without .engine }
    let next : CopyJob := { j with cursor := j.cursor + 1, timeouts := 0, attempts := 0, poison := false }
    have hack : (s.answered g).copyAck j = released.beginStep next := by
      unfold State.copyAck
      rw [if_pos hcur]
      dsimp only
      rw [State.release_of (s := (s.answered g).setMap _) hn hf]
      rfl
    have hstays {k : Key} (h : s.KeyFree k) : released.KeyFree k := fun e he => h e (List.mem_filter.mp he).1
    have hmap : updateEntry s.map j.region (advanceEntry j.poison) = s.map.map fun e =>
        if e.region = j.region then
          match e.state with
          | .live => e
          | .copying k q n => { e with state := .copying k q (n + 1), poisoned := e.poisoned + if j.poison then 1 else 0 }
        else e :=
      List.map_congr_left fun e _ => by rw [advanceEntry_eq]
    rw [exec_writeAck ha, tellOwner_copying (s := s.answered g) hc hj]
    dsimp only
    rw [hack, beginStep_eq (j := next) (hstays hhost) (hstays hspare) (hstays hsource) (hcan.of rfl rfl)]
    simp only [released, hmap]
    rfl
  · rw [exec_readData w ha, tellOwner_engine_contain (s := s.answered g) hb hj]
    rfl
  · rw [exec_writeAck ha, tellOwner_engine_contain (s := s.answered g) hb hj]
    rfl
  · rw [exec_timeout ha, tellOwner_engine_contain hb hj]
    rfl

theorem toNat_eq_ite (b : Bool) : b.toNat = if b then 1 else 0 := by
  cases b <;> rfl

/-- Settles O19: the changes of `completeJob` in their order. -/
theorem copyJobCompletes : Obligations.CopyJobCompletes := by
  intro s j g line w e hj hcur ha hb hn hfind hstate honly poisoned
  obtain ⟨hc, hf, -⟩ := State.inService_of hb
  have hdone := completeEntry_of_copying hstate j.poison
  have hmap : updateEntry s.map j.region (completeEntry j.poison) = s.map.map fun x =>
      if x.region = j.region then
        { x with
          state := .live
          poisoned := poisoned
          replacements := if j.kind = .replace then min (x.replacements + 1) 255 else x.replacements }
      else x := by
    refine List.map_congr_left fun x hx => ?_
    by_cases hr : x.region = j.region
    · rw [if_pos hr, if_pos hr, honly x hx hr, hdone, toNat_eq_ite]
    · rw [if_neg hr, if_neg hr]
  have hpoisoned : poisonedOf (updateEntry s.map j.region (completeEntry j.poison)) j.region = poisoned := by
    unfold poisonedOf
    rw [findEntry_updateEntry fun x => by unfold completeEntry; split <;> rfl, hfind]
    simp only [Option.map_some, show e.region = j.region by simpa using List.find?_some hfind, if_true, hdone, toNat_eq_ite]
    rfl
  rw [exec_writeAck ha, tellOwner_copying (s := s.answered g) hc hj]
  dsimp only
  unfold State.copyAck State.completeJob
  rw [if_neg (by omega)]
  dsimp only
  let completed : State :=
    { s.answered g with
      map := updateEntry s.map j.region (completeEntry j.poison)
      spares := if j.kind = .replace then s.spares.set (j.source - s.V) .bad else s.spares }
  have hcomplete : (s.answered g).completeMap j = completed := by
    unfold State.completeMap
    by_cases hk : j.kind = .replace
    · simp only [completed, if_pos hk]
      rfl
    · simp only [completed, if_neg hk]
      rfl
  rw [hcomplete, State.release_of (s := completed) hn hf]
  simp only [completed]
  rw [hpoisoned, hmap]
  rfl

/-! ### Timeouts of a step (R51, R167) -/

/-- Settles O52: below three timeouts the source is read again, at the third the job is SUSPENDED. -/
theorem copyTimeoutRetriesOrStalls : Obligations.CopyTimeoutRetriesOrStalls := by
  intro s j g t kind line hb hj ha
  obtain ⟨hc, hf, -⟩ := State.inService_of hb
  rw [exec_timeout ha, tellOwner_copying hc hj]
  dsimp only
  unfold State.copyTimeout
  refine ⟨fun hfew hcan => ?_, fun hthird hn => ?_⟩
  · rw [if_pos (by dsimp only; omega)]
    exact congrArg (fun u => Host.Outcome.next (State.timedOut u g kind line .engine))
      (issue_setEngine hcan _ _)
  · rw [if_neg (by dsimp only; omega), State.release_of hn hf, hthird]
    rfl

end Sys2Proof.Proofs
end

section
/-! RESUME_COPY and the job start (R43 to R46, R52), and the spare test (R36, R55 to R58). -/

-- Fewer threads at once: each takes a part of the memory that a check of the whole text may use.
set_option Elab.async false

namespace Sys2Proof.Proofs

open Sys2Proof Sys2Proof.Machine

variable {s : State} {t : Fin 64}

/-! ### RESUME_COPY and the job start -/

theorem freeSpare?_eq_some {i : Nat} (h : s.spares[i]? = some .free) (hlow : ∀ k < i, s.spares[k]? ≠ some .free) :
    s.freeSpare? = some i := by
  obtain ⟨hlt, hfree⟩ := List.getElem?_eq_some_iff.mp h
  unfold State.freeSpare?
  rw [List.findIdx?_eq_some_iff_getElem]
  refine ⟨hlt, by simpa using hfree, fun k hk => ?_⟩
  have := hlow k hk
  rw [List.getElem?_eq_getElem (by omega)] at this
  simpa using this

theorem spareAllocated_keeps (s : State) :
    s.spareAllocated.order = s.order ∧ s.spareAllocated.mem = s.mem ∧ s.spareAllocated.mgmt = s.mgmt := by
  unfold State.spareAllocated
  split <;> exact ⟨rfl, rfl, rfl⟩

theorem spareAllocated_canIssue (h : s.CanIssue t) : s.spareAllocated.CanIssue t := by
  obtain ⟨hb, hq, ht⟩ := h
  unfold State.spareAllocated
  split
  · exact ⟨BridgeState.noConfusion, hq, ht⟩
  · exact ⟨hb, hq, ht⟩

/-- Settles O15: `beginStep` after what a job start does to queue, pool and map. -/
theorem jobStartsAndResumes : Obligations.JobStartsAndResumes := by
  refine ⟨fun s hreset hj => ?_, fun s j t hreset hj hhost hspare hsource hcan => ?_, fun s t hreset hidle hb hcan => ?_⟩
  · refine (State.unlessHeld_of_high hreset _).trans ?_
    cases h : s.engine with
    | suspended j => exact absurd h (hj j)
    | _ => rfl
  · refine (State.unlessHeld_of_high hreset _).trans ?_
    rw [hj]
    dsimp only
    rw [beginStep_eq (j := { j with timeouts := 0 }) hhost hspare hsource hcan]
  intro allocated running
  have hstart := exec_jobStart_of_idle hreset hidle hb
  refine ⟨fun e kind q n he hstate hhost hspare hsource => ?_, fun r rest i hcopy hqueue hfree hlow hhost hspare => ?_⟩
  · have hresume : s.startJob = s.resumeEntry e := by
      unfold State.startJob copyingEntry
      simp only [he]
    rw [hstart, hresume]
    unfold State.resumeEntry
    rw [hstate]
    dsimp only
    rw [beginStep_eq (s := s.logEvent _) (j := newJob e.region kind e.spare q n) hhost hspare hsource (hcan.of rfl rfl)]
    rfl
  · have hspare? : s.freeSpare? = some i := freeSpare?_eq_some hfree hlow
    have hbegin {u : State} (e : Event) (kind : JobKind) (q : Nat) (ho : u.order = s.order) (hbr : u.bridge = s.bridge)
        (hm : u.mem = s.mem) (hmg : u.mgmt = s.mgmt) (hsource : s.KeyFree (.phys (q * 64))) :
        (u.logEvent e).spareAllocated.beginStep (newJob r.region kind i q 0) = running (allocated u e) r.region kind i q 0 := by
      have halloc : (u.logEvent e).spareAllocated = allocated u e := by
        simp only [allocated, ← hbr]
        rfl
      obtain ⟨hao, ham, hamg⟩ := spareAllocated_keeps (u.logEvent e)
      have hkeys {k : Key} (h : s.KeyFree k) : (u.logEvent e).spareAllocated.KeyFree k := by
        rw [State.KeyFree, hao]
        change ∀ x ∈ u.order.entries, _
        rw [ho]
        exact h
      have hV : (u.logEvent e).spareAllocated.V = s.V := by
        unfold State.V State.P State.S
        rw [hamg]
        change u.mgmt.params.memRegions - u.mgmt.params.spareCount = _
        rw [hmg]
      rw [beginStep_eq (j := newJob r.region kind i q 0) (t := t) (hkeys hhost) (by rw [hV]; exact hkeys hspare) (hkeys hsource)
        (spareAllocated_canIssue (hcan.of (congrArg Bridge.state hbr) hm)), halloc]
      rfl
    refine ⟨fun hkind hnew hsource => ?_, fun e hkind hfind hsource => ?_⟩
    · rw [hstart, startJob_of_retire hcopy hqueue hkind]
      unfold State.startRetire
      have hnone : findEntry (s.setQueue rest).map r.region = none := findEntry_eq_none_iff.mpr hnew
      have hsome : (s.setQueue rest).freeSpare? = some i := hspare?
      simp only [hnone, hsome]
      exact congrArg _ (hbegin _ .retire r.region rfl rfl rfl rfl hsource)
    · rw [hstart, startJob_of_replace hcopy hqueue hkind]
      unfold State.startReplace
      have hentry : findEntry (s.setQueue rest).map r.region = some e := hfind
      have hsome : (s.setQueue rest).freeSpare? = some i := hspare?
      simp only [hentry, hsome]
      exact congrArg _ (hbegin _ .replace (s.V + e.spare) rfl rfl rfl rfl hsource)

end Sys2Proof.Proofs
end

section
/-! The spare test and SPARE_MARK_BAD (R36, R55 to R58). -/

-- Fewer threads at once: each takes a part of the memory that a check of the whole text may use.
set_option Elab.async false

namespace Sys2Proof.Proofs

open Sys2Proof Sys2Proof.Machine

variable {s : State} {j : TestJob} {t : Fin 64}

/-! ### The engine told of a test's operation -/

theorem tellOwner_testing (hc : s.bridge.state ≠ .contain) (hj : s.engine = .testing j) (e : MemEnd) :
    s.tellOwner .engine e = s.testEnd j e := by
  rw [State.tellOwner_of_ne hc]
  exact engineEnd_of_testing hj e

theorem tellOwner_testing_contain (hb : s.bridge.state = .contain) (hj : s.engine = .testing j) (e : MemEnd) :
    s.tellOwner .engine e = s.testEnded j.index .abandoned j.before := by
  rw [tellOwner_of_contain hb]
  change s.engineContainEnd = _
  unfold State.engineContainEnd
  simp only [hj]
  rfl

theorem testEnd_of_ne (hf : s.bridge.state ≠ .format) (e : MemEnd) :
    s.testEnd j e =
      match e with
      | .ack => (s.setEngine (.testing { j with phase := .read })).issue ⟨.engine, .mrd, s.testLine j⟩
      | .read _ r => s.testRead j r
      | .timeout => s.testTimeout j := by
  unfold State.testEnd
  exact (if_neg hf).trans (by cases e <;> rfl)

theorem endTest_eq (hn : s.NoneWaits) (hf : s.bridge.state ≠ .format) (j : TestJob) (r : TestResult) :
    s.endTest j r = s.testEnded j.index r (match r with
      | .good => .free
      | .bad => .bad
      | .timeout => j.before
      | .abandoned => j.before) := by
  unfold State.endTest
  rw [State.release_of hn hf]
  cases r <;> rfl

/-! ### A line's first operation (R56) -/

/-- A line of a test whose key is free is written with its pattern. -/
theorem beginTestLine_eq (hfree : s.KeyFree (.phys ((s.V + j.index) * 64 + j.line))) (hcan : s.CanIssue t) :
    s.beginTestLine j =
      State.issued
        { s with
          engine := .testing { j with phase := .write }
          order := s.order.append (.phys ((s.V + j.index) * 64 + j.line)) .engine true }
        t .engine (.mwr (encode (patternData j.line))) ((s.V + j.index) * 64 + j.line) := by
  refine State.requestHold_of_keyFree (s := s.setEngine (.testing { j with phase := .waitHold })) hfree rfl ?_
    (State.nextOwner_of_active (List.mem_append_right _ (List.mem_singleton_self _)) rfl rfl)
  exact congrArg (fun v => (v, [])) (State.issue_of_canIssue (s :=
    { s with
      engine := .testing { j with phase := .write }
      order := s.order.append (.phys ((s.V + j.index) * 64 + j.line)) .engine true })
    (hcan.of rfl rfl) ⟨.engine, .mwr (encode (patternData j.line)), (s.V + j.index) * 64 + j.line⟩)

/-! ### The commands (R36, R55) -/

theorem spare?_eq (i : Nat) : s.spare? i = if i < s.S then s.spares[i]? else none := rfl

theorem exec_spareMarkBad (hreset : s.resetLow = false) (i : Byte) :
    exec (.spareMarkBad i) s = .next
      (if s.bridge.state ≠ .standby then s.reply .badState []
       else if s.S ≤ i.toNat ∨ s.spares.length ≤ i.toNat then s.reply .range []
       else if s.spares[i.toNat]? = some .bad then s.reply .already []
       else if s.spares[i.toNat]? ≠ some .free then s.reply .badState []
       else State.reply { s with spares := s.spares.set i.toNat .bad } .done []) := by
  refine (State.unlessHeld_of_high hreset _).trans ?_
  by_cases hb : s.bridge.state ≠ .standby
  · rw [if_pos hb, if_pos hb]
  rw [if_neg hb, if_neg hb, spare?_eq]
  by_cases hrange : s.S ≤ i.toNat ∨ s.spares.length ≤ i.toNat
  · have hnone : (if i.toNat < s.S then s.spares[i.toNat]? else none) = none := by
      rcases hrange with h | h
      · exact if_neg (by omega)
      · rw [List.getElem?_eq_none h, ite_self]
    rw [if_pos hrange, hnone]
  · rw [if_neg hrange, if_pos (by omega)]
    obtain ⟨x, hx⟩ : ∃ x, s.spares[i.toNat]? = some x := ⟨_, List.getElem?_eq_getElem (by omega)⟩
    rw [hx]
    cases x <;> rfl

theorem copyingEntry_isSome_iff : (copyingEntry s.map).isSome = true ↔ ∃ e ∈ s.map, e.isCopying = true := by
  unfold copyingEntry
  simp [List.find?_isSome]

/-- The checks of R55 past the bridge state. -/
theorem exec_spareTest (hreset : s.resetLow = false) (hf : s.bridge.state ≠ .format) (hc : s.bridge.state ≠ .contain)
    (hidle : s.engine = .idle) {i : Byte} (hi : i.toNat < s.S) {x : SpareState} (hx : s.spares[i.toNat]? = some x) :
    exec (.spareTest i) s = .next
      (if ∃ e ∈ s.map, e.isCopying = true then s.reply .badState []
      else if x = .testing ∨ x = .inUse then s.reply .badState []
      else (s.startTest i.toNat x).reply .accepted []) := by
  refine (State.unlessHeld_of_high hreset _).trans ?_
  rw [if_neg (not_closing hf hc), if_neg (not_not.mpr hidle), spare?_eq, if_pos hi, hx]
  simp only [copyingEntry_isSome_iff, Bool.or_eq_true, decide_eq_true_eq, apply_ite Host.Outcome.next]

/-! ### The test line by line (R56, R57) -/

/-- A line that reads CLEAN with its pattern passes to the next line. -/
theorem testRead_next (hn : s.NoneWaits) (hf : s.bridge.state ≠ .format) (hline : j.line < 63)
    (hfree : s.KeyFree (.phys ((s.V + j.index) * 64 + (j.line + 1)))) (hcan : s.CanIssue t) :
    s.testRead j (.clean (patternData j.line)) =
      State.issued
        { s with
          engine := .testing { j with line := j.line + 1, phase := .write, timeouts := 0 }
          order := (s.order.without .engine).append (.phys ((s.V + j.index) * 64 + (j.line + 1))) .engine true }
        t .engine (.mwr (encode (patternData (j.line + 1)))) ((s.V + j.index) * 64 + (j.line + 1)) := by
  unfold State.testRead
  rw [if_pos rfl, if_pos hline, State.release_of hn hf]
  exact beginTestLine_eq (s := { s with order := s.order.without .engine })
    (j := { j with line := j.line + 1, timeouts := 0 }) (fun e he => hfree e (List.mem_filter.mp he).1) (hcan.of rfl rfl)

theorem testRead_good (hn : s.NoneWaits) (hf : s.bridge.state ≠ .format) (hline : 63 ≤ j.line) :
    s.testRead j (.clean (patternData j.line)) = s.testEnded j.index .good .free := by
  unfold State.testRead
  rw [if_pos rfl, if_neg (by omega), endTest_eq hn hf]

theorem testRead_bad (hn : s.NoneWaits) (hf : s.bridge.state ≠ .format) {r : ReadResult} (hr : r ≠ .clean (patternData j.line)) :
    s.testRead j r = s.testEnded j.index .bad .bad := by
  unfold State.testRead
  rw [if_neg hr, endTest_eq hn hf]

theorem testTimeout_again (hfew : j.timeouts < 2) (hcan : s.CanIssue t) :
    s.testTimeout j =
      State.issued { s with engine := .testing { j with phase := .write, timeouts := j.timeouts + 1 } } t .engine
        (.mwr (encode (patternData j.line))) ((s.V + j.index) * 64 + j.line) := by
  unfold State.testTimeout
  rw [if_pos (by dsimp only; omega)]
  exact issue_setEngine hcan _ _

theorem testTimeout_third (hmany : 2 ≤ j.timeouts) (hn : s.NoneWaits) (hf : s.bridge.state ≠ .format) :
    s.testTimeout j = s.testEnded j.index .timeout j.before := by
  unfold State.testTimeout
  rw [if_neg (by dsimp only; omega), endTest_eq hn hf]

/-- Settles O13: the checks of the two commands, then the test's operation by how it ended and by the bridge state. -/
theorem spareMarkAndTest : Obligations.SpareMarkAndTest := by
  refine ⟨fun i s hreset => exec_spareMarkBad hreset i, fun i s hreset => ?_, fun s j g u line hj => ?_⟩
  · refine ⟨fun hb => (State.unlessHeld_of_high hreset _).trans (if_pos (closing_iff.mpr hb)), fun hf hc => ⟨fun hbusy => ?_,
      fun hidle => ⟨fun hi => ?_, fun hi x hx => ⟨fun hno => ?_, ?_⟩⟩⟩⟩
    · refine (State.unlessHeld_of_high hreset _).trans ?_
      rw [if_neg (not_closing hf hc), if_pos hbusy]
    · refine (State.unlessHeld_of_high hreset _).trans ?_
      rw [if_neg (not_closing hf hc), if_neg (not_not.mpr hidle), spare?_eq, if_neg (by omega)]
    · rw [exec_spareTest hreset hf hc hidle hi hx]
      by_cases hcopy : ∃ e ∈ s.map, e.isCopying = true
      · rw [if_pos hcopy]
      · rw [if_neg hcopy, if_pos (hno.resolve_left hcopy)]
    · intro t hcopy hkind p hfree hcan
      rw [exec_spareTest hreset hf hc hidle hi hx, if_neg (by rintro ⟨e, he, h⟩; simp [hcopy e he] at h),
        if_neg (by rcases hkind with rfl | rfl <;> simp)]
      refine congrArg (fun v => Host.Outcome.next (State.reply v .accepted [])) ?_
      exact beginTestLine_eq (s := s.setSpare i.toNat .testing) (j := ⟨i.toNat, 0, .waitHold, 0, x⟩) hfree (hcan.of rfl rfl)
  intro gen p pattern
  refine ⟨fun hf hc => ⟨fun w ha hcan => ?_, fun w ha hn => ⟨fun hw hline hfree hcan => ?_, fun hw hline => ?_, fun hw => ?_⟩,
    fun kind ha => ⟨fun hfew hcan => ?_, fun hmany hn => ?_⟩⟩, fun hb => ⟨fun w ha => ?_, fun w ha => ?_, fun kind ha => ?_⟩,
    fun hb hn => ⟨fun w ha ht => ?_, fun w ha ht => ?_, fun kind ha ht => ?_⟩⟩
  · rw [exec_writeAck ha, tellOwner_testing (s := s.answered g) hc hj, testEnd_of_ne (s := s.answered g) hf]
    exact congrArg _ (issue_setEngine hcan _ _)
  · rw [exec_readData w ha, tellOwner_testing (s := s.answered g) hc hj, testEnd_of_ne (s := s.answered g) hf, hw]
    exact congrArg _ (testRead_next (s := s.answered g) hn hf hline hfree hcan)
  · rw [exec_readData w ha, tellOwner_testing (s := s.answered g) hc hj, testEnd_of_ne (s := s.answered g) hf, hw]
    exact congrArg _ (testRead_good (s := s.answered g) hn hf hline)
  · rw [exec_readData w ha, tellOwner_testing (s := s.answered g) hc hj, testEnd_of_ne (s := s.answered g) hf]
    exact congrArg _ (testRead_bad (s := s.answered g) hn hf hw)
  · rw [exec_timeout ha, tellOwner_testing hc hj, testEnd_of_ne hf]
    exact congrArg (fun v => Host.Outcome.next (State.timedOut v g kind line .engine)) (testTimeout_again hfew hcan)
  · rw [exec_timeout ha, tellOwner_testing hc hj, testEnd_of_ne hf]
    exact congrArg (fun v => Host.Outcome.next (State.timedOut v g kind line .engine)) (testTimeout_third hmany hn hf)
  · rw [exec_readData w ha, tellOwner_testing_contain (s := s.answered g) hb hj]
  · rw [exec_writeAck ha, tellOwner_testing_contain (s := s.answered g) hb hj]
  · rw [exec_timeout ha, tellOwner_testing_contain hb hj]
    rfl
  · rw [exec_readData w ha, tellOwner_testing (s := s.answered g) (by simp [State.answered, hb]) hj,
      testEnd_format (s := s.answered g) hb hn ht]
  · rw [exec_writeAck ha, tellOwner_testing (s := s.answered g) (by simp [State.answered, hb]) hj,
      testEnd_format (s := s.answered g) hb hn ht]
  · rw [exec_timeout ha, tellOwner_testing (by simp [hb]) hj, testEnd_format hb hn ht]
    rfl

end Sys2Proof.Proofs
end

section
/-! The patrol: its commands and timer (R115 to R117), visits (R119 to R124) and the pass end (R125, R126). -/

-- Fewer threads at once: each takes a part of the memory that a check of the whole text may use.
set_option Elab.async false

namespace Sys2Proof.Proofs

open Sys2Proof Sys2Proof.Machine

variable {s u : State} {v : Visit} {p : Nat} {t : Fin 64}

/-! ### The start of a visit (R115, R119, R120) -/

theorem regionUnderCopy_eq_true {m : List MapEntry} {r : Nat} {e : MapEntry} (h : findEntry m r = some e) (he : e.isCopying = true) :
    regionUnderCopy m r = true := by
  unfold regionUnderCopy
  simp only [h, he]

theorem regionUnderCopy_eq_false {m : List MapEntry} {r : Nat} (h : ∀ e, findEntry m r = some e → e.isCopying = false) :
    regionUnderCopy m r = false := by
  unfold regionUnderCopy
  cases hf : findEntry m r with
  | none => rfl
  | some e => exact h e hf

/-- The patrol as a visit that starts leaves it. -/
def timerRestarted (s : State) : State := { s with patrol := { s.patrol with timer := .running s.mgmt.params.patrolIntervalUs } }

/-- A visit starts: what it comes to, its hold settled. -/
def visitStarted (s : State) : State := s.startVisit.1.settleKeys s.startVisit.2

/-- A visit of a region under copy is skipped. -/
theorem visitStarted_of_copy (h : regionUnderCopy s.map (s.patrol.position / 64) = true) :
    visitStarted s = (timerRestarted s).closeVisit .skipped := by
  have hstart : s.startVisit = ((timerRestarted s).closeVisit .skipped, []) := if_pos h
  unfold visitStarted
  rw [hstart]
  exact State.settle_nil _ _

/-- A visit whose keys are free reads its line. -/
theorem visitStarted_of_keyFree (h : regionUnderCopy s.map (s.patrol.position / 64) = false)
    (hfree : s.KeyFree (.host s.patrol.position)) (hphys : s.KeyFree (.phys (Machine.translate s.V s.map s.patrol.position)))
    (hcan : s.CanIssue t) :
    visitStarted s =
      State.issued
        { s with
          patrol :=
            { s.patrol with
              timer := .running s.mgmt.params.patrolIntervalUs
              visit := some ⟨s.patrol.position, some (Machine.translate s.V s.map s.patrol.position), .read, 1, .none⟩ }
          order := s.order.append (.host s.patrol.position) .patrol true }
        t .patrol .mrd (Machine.translate s.V s.map s.patrol.position) := by
  let w : State := { timerRestarted s with
    patrol := { (timerRestarted s).patrol with visit := some ⟨s.patrol.position, none, .waitHold, 0, .none⟩ } }
  have hstart : s.startVisit = (w.addHold (.host s.patrol.position) .patrol, [.host s.patrol.position]) :=
    if_neg (by rw [Bool.not_eq_true]; exact h)
  unfold visitStarted
  rw [hstart]
  refine State.requestHold_of_keyFree (s := w) hfree (State.heldBack_of_keyFree fun q hq e he => ?_) ?_
    (State.nextOwner_of_active (List.mem_append_right _ (List.mem_singleton_self _)) rfl rfl)
  · obtain rfl : q = Machine.translate s.V s.map s.patrol.position := List.mem_singleton.mp hq
    rcases List.mem_append.mp he with he | he
    · exact hphys e he
    · rw [List.mem_singleton.mp he]
      exact Key.noConfusion
  · let reads : State :=
      { w with
        patrol :=
          { w.patrol with
            visit := some ⟨s.patrol.position, some (Machine.translate s.V s.map s.patrol.position), .read, 1, .none⟩ }
        order := s.order.append (.host s.patrol.position) .patrol true }
    have hreads : (w.setOrder (w.order.append (.host s.patrol.position) .patrol true)).begin .patrol =
        (reads.issue ⟨.patrol, .mrd, Machine.translate s.V s.map s.patrol.position⟩, []) :=
      if_neg (by rw [Bool.not_eq_true]; exact h)
    rw [hreads, State.issue_of_canIssue (s := reads) (hcan.of rfl rfl)]
    rfl

/-! ### The commands and the timer (R115 to R117) -/

theorem exec_intervalTimerRunOut (hreset : s.resetLow = false) {us : Nat} (ht : s.patrol.timer = .running us) :
    exec .intervalTimerRunOut s = .next s.timerRunOut := by
  refine (State.unlessHeld_of_high hreset _).trans ?_
  rw [ht]

theorem timerRunOut_of_serving (hrun : s.patrol.running = true) (hv : s.patrol.visit = none)
    (hb : s.bridge.state = .online ∨ s.bridge.state = .degraded) : s.timerRunOut = visitStarted s := by
  obtain ⟨hc, -, hserv⟩ := State.inService_of hb
  unfold State.timerRunOut
  rw [if_neg (by simp [hrun]), if_neg hc, if_neg (by simp [hv]), if_pos hserv]
  rfl

/-- A visit short of the last line ends. -/
theorem closeVisit_of_lt (h : s.patrol.position + 1 < s.V * 64) (e : VisitEnd) : s.closeVisit e = s.setPatrol (visited s.patrol e) := by
  rw [closeVisit_eq, if_neg (by omega)]

/-- Settles O37: the checks of the commands, and the timer by the state it finds. -/
theorem patrolPace : Obligations.PatrolPace := by
  refine ⟨fun s hreset => ⟨(State.unlessHeld_of_high hreset _).trans ?_, State.unlessHeld_of_high hreset _⟩, fun s us hreset ht => ?_⟩
  · by_cases hb : s.bridge.state = .online ∨ s.bridge.state = .degraded
    · rw [if_neg (by simp [inService_iff.mpr hb]), if_neg (not_not.mpr hb)]
      by_cases hrun : s.patrol.running = true
      · rw [if_pos hrun, if_pos hrun]
      · rw [if_neg hrun, if_neg hrun]
        rfl
    · have hno : s.inService = false := by
        rw [← Bool.not_eq_true, inService_iff]
        exact hb
      rw [if_pos (by simp [hno]), if_pos hb]
  intro h restarted
  rw [exec_intervalTimerRunOut hreset ht]
  refine ⟨fun hstop => congrArg _ ?_, fun v hrun hc hv => congrArg _ ?_, fun hrun hv hb => ?_⟩
  · unfold State.timerRunOut
    by_cases hrun : s.patrol.running = true
    · rw [if_neg (by simp [hrun]), if_pos (hstop.resolve_left (by simp [hrun]))]
      rfl
    · rw [if_pos (by simpa using hrun)]
      rfl
  · unfold State.timerRunOut
    rw [if_neg (by simp [hrun]), if_neg hc, if_pos (by simp [hv])]
    rfl
  · rw [timerRunOut_of_serving hrun hv hb]
    refine ⟨fun ⟨e, he, hcopy⟩ hlast => congrArg _ ?_, fun t hcopy hfree hphys hcan => congrArg _ ?_⟩
    · rw [visitStarted_of_copy (regionUnderCopy_eq_true he hcopy), closeVisit_of_lt (s := timerRestarted s) hlast]
      simp [visited, timerRestarted, State.setPatrol, PassCounts.add, hv, h, restarted]
    · exact visitStarted_of_keyFree (regionUnderCopy_eq_false hcopy) hfree hphys hcan

/-! ### A visit's operation ends (R121 to R124) -/

theorem tellOwner_patrol (hc : s.bridge.state ≠ .contain) (hv : s.patrol.visit = some v) (e : MemEnd) :
    s.tellOwner .patrol e =
      match e with
      | .read _ r => s.visitRead v r
      | .ack => s.releaseVisit v.tally.visitEnd
      | .timeout => s.releaseVisit (.timeout v.tally) := by
  rw [State.tellOwner_of_ne hc]
  cases e <;> simp only [State.patrolEnd, hv]

theorem tellOwner_patrol_contain (hb : s.bridge.state = .contain) (hv : s.patrol.visit = some v) (e : MemEnd) :
    s.tellOwner .patrol e = s.patrolContainEnd v e := by
  rw [tellOwner_of_contain hb]
  unfold State.endInContain
  simp only [hv]

/-- Without its hold. -/
def holdReleased (s : State) : State := { s with order := s.order.without .patrol }

theorem startDueVisit_of_not_due (h : s.patrol.due = false) : s.startDueVisit = (s, []) :=
  if_neg (by simp [h])

theorem startDueVisit_of_due (h : s.patrol.due = true) (hrun : s.patrol.running = true) :
    s.startDueVisit = (s.setPatrol { s.patrol with due := false }).startVisit :=
  if_pos (by simp [h, hrun])

theorem closeVisit_due (s : State) (e : VisitEnd) : (s.closeVisit e).patrol.due = s.patrol.due :=
  (told_closeVisit (w := .patrol) s e).due

/-- While no hold waits and no visit is due the end of a visit is its release and its counts. -/
theorem releaseVisit_of_not_due (hn : s.NoneWaits) (hf : s.bridge.state ≠ .format) (hd : s.patrol.due = false) (e : VisitEnd) :
    s.releaseVisit e = (holdReleased s).closeVisit e := by
  unfold State.releaseVisit State.endVisit
  rw [State.release_of hn hf]
  change ((holdReleased s).closeVisit e).startDueVisit.1.settleKeys ((holdReleased s).closeVisit e).startDueVisit.2 = _
  rw [startDueVisit_of_not_due ((closeVisit_due (holdReleased s) e).trans hd)]
  exact State.settle_nil _ _

theorem releaseVisit_of_lt (hn : s.NoneWaits) (hf : s.bridge.state ≠ .format) (hd : s.patrol.due = false)
    (hp : s.patrol.position + 1 < s.V * 64) (e : VisitEnd) : s.releaseVisit e = s.visitDone fun k => k.add e := by
  rw [releaseVisit_of_not_due hn hf hd, closeVisit_of_lt (s := holdReleased s) hp]
  rfl

/-- A visit that is due starts once the visit before it has ended. -/
theorem releaseVisit_of_due (hn : s.NoneWaits) (hf : s.bridge.state ≠ .format) (hd : s.patrol.due = true)
    (hrun : s.patrol.running = true) (hp : s.patrol.position + 1 < s.V * 64) (e : VisitEnd) :
    s.releaseVisit e =
      visitStarted
        { s.visitDone (fun k => k.add e) with patrol := { (s.visitDone fun k => k.add e).patrol with due := false } } := by
  have hclose : (holdReleased s).closeVisit e = s.visitDone fun k => k.add e := closeVisit_of_lt (s := holdReleased s) hp e
  unfold State.releaseVisit State.endVisit
  rw [State.release_of hn hf]
  change ((holdReleased s).closeVisit e).startDueVisit.1.settleKeys ((holdReleased s).closeVisit e).startDueVisit.2 = _
  rw [hclose, startDueVisit_of_due (s := s.visitDone _) hd hrun]
  rfl

/-- The patrol's progress does not matter to the Memory Port. -/
theorem issue_setPatrol (hcan : s.CanIssue t) (q : Patrol) (r : IssueReq) :
    (s.setPatrol q).issue r = State.issued { s with patrol := q } t r.owner r.kind r.line :=
  State.issue_of_canIssue (s := s.setPatrol q) (hcan.of rfl rfl) r

theorem visitWrite_eq (hp : v.phys = some p) (hcan : u.CanIssue t) (x : Tally) (cw : Codeword) :
    u.visitWrite v x cw =
      State.issued { u with patrol := { u.patrol with visit := some { v with phase := .write, tally := x } } } t .patrol (.mwr cw) p := by
  unfold State.visitWrite
  rw [hp]
  exact issue_setPatrol hcan _ _

/-- What a visit's read that ends in the retry phase records, or else the report of its outcome. -/
def visitRecorded (s : State) (v : Visit) (p : Nat) (k : ReportKind) : State :=
  if v.phase = .retry then (s.handedOver (.report ⟨.transient, .patrol, p⟩)).logEvent (.transient p v.attempts .patrol)
  else match k with
    | .corrected _ => s.handedOver (.report ⟨k, .patrol, p⟩)
    | _ => s

/-- What a record of a visit's read leaves as it was. -/
theorem visitRecorded_keeps (s : State) (v : Visit) (p : Nat) (k : ReportKind) :
    (visitRecorded s v p k).order = s.order ∧ (visitRecorded s v p k).bridge = s.bridge ∧ (visitRecorded s v p k).mem = s.mem ∧
      (visitRecorded s v p k).patrol = s.patrol ∧ (visitRecorded s v p k).mgmt = s.mgmt := by
  unfold visitRecorded
  split
  · exact ⟨rfl, rfl, rfl, rfl, rfl⟩
  · split <;> exact ⟨rfl, rfl, rfl, rfl, rfl⟩

theorem visitRead_eq (hp : v.phys = some p) (r : ReadResult) :
    s.visitRead v r =
      match r with
      | .clean _ => (visitRecorded s v p .transient).releaseVisit .checked
      | .corrected k w => (visitRecorded s v p (.corrected k)).visitWrite v .corrected w
      | .poison => s.releaseVisit .poisoned
      | .uncorrectable => s.visitUncorrectable v := by
  cases r with
  | clean _ | corrected _ _ =>
    simp only [State.visitRead, visitRecorded, hp, Option.getD_some]
    rfl
  | poison | uncorrectable => simp only [State.visitRead]

theorem visitUncorrectable_eq (hp : v.phys = some p) (hcan : s.CanIssue t) :
    s.visitUncorrectable v =
      if v.attempts - 1 < s.mgmt.params.readRetries then
        State.issued { s with patrol := { s.patrol with visit := some { v with phase := .retry, attempts := v.attempts + 1 } } } t .patrol
          .mrd p
      else
        ((State.issued { s with patrol := { s.patrol with visit := some { v with phase := .write, tally := .uncorrectable } } } t
          .patrol (.mwr (poisonMark Data.zero)) p).handedOver (.report ⟨.uncorrectable, .patrol, p⟩)).logEvent
            (.uncorrectable p (some v.line) .patrolPoisoned) := by
  unfold State.visitUncorrectable
  rw [visitWrite_eq hp hcan, hp]
  dsimp only [Option.getD_some]
  rw [issue_setPatrol hcan]
  rfl

/-! ### A visit's end in CONTAIN (R128) -/

theorem patrolContainReport_eq (hp : v.phys = some p) (hphase : v.phase = .read ∨ v.phase = .retry) (w : Codeword) (r : ReadResult) :
    s.patrolContainReport v (.read w r) =
      match r with
      | .clean _ => visitRecorded s v p .transient
      | .corrected k _ => visitRecorded s v p (.corrected k)
      | _ => s := by
  unfold State.patrolContainReport visitRecorded
  rw [hp]
  rcases hphase with h | h <;> rw [h] <;> cases r <;> rfl

theorem patrolContainReport_of_write {e : MemEnd} (h : ∀ w r, e ≠ MemEnd.read w r) : s.patrolContainReport v e = s := by
  unfold State.patrolContainReport
  cases e with
  | read w r => exact absurd rfl (h w r)
  | ack => cases v.phase <;> rfl
  | timeout => cases v.phase <;> rfl

end Sys2Proof.Proofs
end

section
/-! The patrol's obligations: a visit's operation ends (R121 to R124, R128), and the pass ends with the last visit (R125, R126). -/

-- Fewer threads at once: each takes a part of the memory that a check of the whole text may use.
set_option Elab.async false

namespace Sys2Proof.Proofs

open Sys2Proof Sys2Proof.Machine

variable {s u : State} {v : Visit} {p : Nat} {t : Fin 64}

theorem visitRecorded_canIssue (h : s.CanIssue t) (v : Visit) (p : Nat) (k : ReportKind) : (visitRecorded s v p k).CanIssue t := by
  obtain ⟨-, hb, hm, -⟩ := visitRecorded_keeps s v p k
  exact h.of (congrArg Bridge.state hb) hm

theorem V_visitRecorded (s : State) (v : Visit) (p : Nat) (k : ReportKind) : (visitRecorded s v p k).V = s.V := by
  obtain ⟨-, -, -, -, hm⟩ := visitRecorded_keeps s v p k
  unfold State.V State.P State.S
  rw [hm]

/-- A visit short of the last line that has recorded its read ends with its release. -/
theorem visitRecorded_released (hn : s.NoneWaits) (hf : s.bridge.state ≠ .format) (hd : s.patrol.due = false)
    (hp : s.patrol.position + 1 < s.V * 64) (v : Visit) (q : Nat) (k : ReportKind) (e : VisitEnd) :
    (visitRecorded s v q k).releaseVisit e = (visitRecorded s v q k).visitDone fun k => k.add e := by
  obtain ⟨ho, hb, -, hpat, -⟩ := visitRecorded_keeps s v q k
  refine releaseVisit_of_lt ?_ (by rwa [hb]) (by rwa [hpat]) (by rwa [hpat, V_visitRecorded]) e
  rw [State.NoneWaits, ho]
  exact hn

theorem add_visitEnd (x : Tally) : (fun k : PassCounts => k.add x.visitEnd) = x.counted := by
  funext k
  cases x <;> rfl

theorem add_timeout (x : Tally) :
    (fun k : PassCounts => k.add (.timeout x)) = fun k => { x.counted k with timeouts := k.timeouts + 1 } := by
  funext k
  cases x <;> rfl

/-- A visit short of the last line ends in CONTAIN: its reports, its counts, and the running flag cleared. -/
theorem patrolContainEnd_of_lt {e : MemEnd} (hu : s.patrolContainReport v e = u) (hpos : u.patrol.position + 1 < u.V * 64) :
    s.patrolContainEnd v e =
      { u.visitDone (fun k => k.add (v.containEnd e)) with
        patrol := { (u.visitDone fun k => k.add (v.containEnd e)).patrol with running := false } } := by
  unfold State.patrolContainEnd
  rw [hu, closeVisit_of_lt (s := u.removeHold .patrol) hpos]
  rfl

/-- Settles O38: each end of a visit's operation, in service with and without a visit due, and in CONTAIN. -/
theorem visitReadAnswered : Obligations.VisitReadAnswered := by
  intro s v p g t line hv hp hpos gen a rec checked timeout poisoned stopped writes
  refine ⟨fun hb hn => ⟨fun hd => ⟨fun w hphase ha hcan => ?_, fun w ha => ?_, fun kind ha => ?_⟩, fun w d hd hrun hphase ha hw => ?_⟩,
    fun hb => ⟨fun w hphase ha => ?_, fun w ha => ?_, fun kind ha => ?_⟩⟩
  · obtain ⟨hc, hf, -⟩ := State.inService_of hb
    rw [exec_readData w ha, tellOwner_patrol (s := a) hc hv]
    dsimp only
    rw [visitRead_eq hp]
    cases classify w with
    | clean d => exact congrArg _ (visitRecorded_released (s := a) hn hf hd hpos v p .transient .checked)
    | corrected k cw => exact congrArg _ (visitWrite_eq hp (visitRecorded_canIssue hcan v p (.corrected k)) .corrected cw)
    | poison => exact congrArg _ (releaseVisit_of_lt (s := a) hn hf hd hpos .poisoned)
    | uncorrectable => exact congrArg _ (visitUncorrectable_eq hp hcan)
  · obtain ⟨hc, hf, -⟩ := State.inService_of hb
    rw [exec_writeAck ha, tellOwner_patrol (s := a) hc hv, ← add_visitEnd]
    exact congrArg _ (releaseVisit_of_lt (s := a) hn hf hd hpos _)
  · obtain ⟨hc, hf, -⟩ := State.inService_of hb
    have htimeout : (fun k : PassCounts => k.add (.timeout v.tally)) = timeout := add_timeout v.tally
    rw [exec_timeout ha, tellOwner_patrol hc hv, ← htimeout]
    exact congrArg (fun x => Host.Outcome.next (State.timedOut x g kind line .patrol)) (releaseVisit_of_lt hn hf hd hpos _)
  · obtain ⟨hc, hf, -⟩ := State.inService_of hb
    intro h u started
    let due : State := { u with patrol := { u.patrol with due := false } }
    have hexec : exec (.readData gen g w) s = .next (visitStarted due) := by
      rw [exec_readData w ha, tellOwner_patrol (s := a) hc hv]
      dsimp only
      rw [visitRead_eq hp, hw]
      have hrec : visitRecorded a v p .transient = a := if_neg (by simp [hphase])
      dsimp only
      rw [hrec]
      exact congrArg _ (releaseVisit_of_due (s := a) hn hf hd hrun hpos .checked)
    have hkeys {k : Key} (hk : s.KeyFree k) : due.KeyFree k := fun e he => hk e (List.mem_filter.mp he).1
    refine ⟨fun e he hcopy hlast => ?_, fun hcopy hfree hphys hcan => ?_⟩
    · rw [hexec, visitStarted_of_copy (s := due) (regionUnderCopy_eq_true he hcopy),
        closeVisit_of_lt (s := timerRestarted due) hlast]
      rfl
    · rw [hexec, visitStarted_of_keyFree (s := due) (regionUnderCopy_eq_false hcopy) (hkeys hfree) (hkeys hphys) (hcan.of rfl rfl)]
      rfl
  · rw [exec_readData w ha, tellOwner_patrol_contain (s := a) hb hv]
    have hrec (k : ReportKind) : (visitRecorded a v p k).patrol.position + 1 < (visitRecorded a v p k).V * 64 := by
      rw [V_visitRecorded, (visitRecorded_keeps a v p k).2.2.2.1]
      exact hpos
    have hreport := patrolContainReport_eq (s := a) hp hphase w
    cases hw : classify w with
    | clean d => exact congrArg _ (patrolContainEnd_of_lt (hreport (.clean d)) (hrec .transient))
    | corrected k cw => exact congrArg _ (patrolContainEnd_of_lt (hreport (.corrected k cw)) (hrec (.corrected k)))
    | poison => exact congrArg _ (patrolContainEnd_of_lt (hreport .poison) hpos)
    | uncorrectable => exact congrArg _ (patrolContainEnd_of_lt (hreport .uncorrectable) hpos)
  · rw [exec_writeAck ha, tellOwner_patrol_contain (s := a) hb hv, ← add_visitEnd]
    exact congrArg _ (patrolContainEnd_of_lt (patrolContainReport_of_write fun _ _ => MemEnd.noConfusion) hpos)
  · have htimeout : (fun k : PassCounts => k.add (.timeout v.tally)) = timeout := add_timeout v.tally
    rw [exec_timeout ha, tellOwner_patrol_contain hb hv, ← htimeout]
    exact congrArg (fun x => Host.Outcome.next (State.timedOut x g kind line .patrol))
      (patrolContainEnd_of_lt (patrolContainReport_of_write fun _ _ => MemEnd.noConfusion) hpos)

/-! ### The pass end (R125, R126) -/

theorem closeVisit_of_last (h : s.patrol.position + 1 = s.V * 64) (e : VisitEnd) :
    s.closeVisit e =
      ((s.setPatrol (nextPass (visited s.patrol e))).logEvent (.passDone s.patrol.pass)).hand (.passEnd s.patrol.pass) := by
  rw [closeVisit_eq, if_pos h]

/-- The patrol after the last visit of a pass: the figures are offered to the summary. -/
theorem nextPass_visited (q : Patrol) (e : VisitEnd) :
    nextPass (visited q e) =
      if q.summaryValid then
        { q with
          visit := none, position := 0, pass := q.pass + 1, counts := PassCounts.zero
          missed := if q.missed < 255 then q.missed + 1 else q.missed }
      else
        { q with
          visit := none, position := 0, pass := q.pass + 1, counts := PassCounts.zero
          summary := ⟨q.pass, q.counts.add e⟩, summaryValid := true } := by
  unfold nextPass Patrol.offer visited
  cases q.summaryValid <;> rfl

/-- Settles O39: the last visit's end by a CLEAN read, a timeout and a skip. -/
theorem passEnds : Obligations.PassEnds := by
  intro s hreset hlast n passEnded checked
  have hpass {u : State} (hu : u.patrol.position = s.patrol.position) (hV : u.V = s.V) (hs : u.patrol.summaryValid = s.patrol.summaryValid)
      (hm : u.patrol.missed = s.patrol.missed) (hpn : u.patrol.pass = n) (e : VisitEnd) :
      u.closeVisit e = passEnded u (u.patrol.counts.add e) := by
    rw [closeVisit_of_last (by rw [hu, hV]; exact hlast), nextPass_visited]
    simp only [passEnded, hs, hm, hpn]
    rfl
  refine ⟨?_, fun us e ht hrun hv hb he hcopy => ?_⟩
  · intro v g line hv released
    have hread {w : Codeword} {d : Data} (hphase : v.phase = .read) (ha : s.Awaits g .patrol .mrd line) (hw : classify w = .clean d) :
        exec (.readData s.mem.generation g w) s = .next ((s.answered g).tellOwner .patrol (.read w (.clean d))) := by
      rw [exec_readData w ha, hw]
    refine ⟨fun w d hphase ha hw => ⟨fun hb hn hd => ?_, fun hb => ?_⟩, fun kind ha hb hn hd => ?_⟩
    · obtain ⟨hc, hf, -⟩ := State.inService_of hb
      have hclean : (s.answered g).visitRead v (.clean d) = (s.answered g).releaseVisit .checked := by
        unfold State.visitRead
        simp only [hphase, reduceCtorEq, if_false]
      rw [hread hphase ha hw, tellOwner_patrol (s := s.answered g) hc hv]
      dsimp only
      rw [hclean, releaseVisit_of_not_due (s := s.answered g) hn hf hd]
      exact congrArg _ (hpass (u := holdReleased (s.answered g)) rfl rfl rfl rfl rfl .checked)
    · have hreport : (s.answered g).patrolContainReport v (.read w (.clean d)) = s.answered g := by
        unfold State.patrolContainReport
        simp only [hphase]
      rw [hread hphase ha hw, tellOwner_patrol_contain (s := s.answered g) hb hv]
      unfold State.patrolContainEnd
      rw [hreport]
      have hend := hpass (u := (s.answered g).removeHold .patrol) rfl rfl rfl rfl rfl (v.containEnd (.read w (.clean d)))
      dsimp only
      rw [hend]
      rfl
    · obtain ⟨hc, hf, -⟩ := State.inService_of hb
      rw [exec_timeout ha, tellOwner_patrol hc hv]
      dsimp only
      rw [releaseVisit_of_not_due hn hf hd, hpass (u := holdReleased s) rfl rfl rfl rfl rfl]
      have hcounts := congrFun (add_timeout v.tally) s.patrol.counts
      exact congrArg (fun k => Host.Outcome.next (State.timedOut (passEnded (released s) k) g kind line .patrol)) hcounts
  · rw [exec_intervalTimerRunOut hreset ht, timerRunOut_of_serving hrun hv hb, visitStarted_of_copy (regionUnderCopy_eq_true he hcopy)]
    exact congrArg _ (hpass (u := timerRestarted s) rfl rfl rfl rfl rfl .skipped)

end Sys2Proof.Proofs
end

section
/-! The Health Tracker's taking of a report: the entry as the report leaves it (R104, R105, R108), the trigger with its
submission (R106, R107), and the eviction from a full table (R103). -/

-- Fewer threads at once: each takes a part of the memory that a check of the whole text may use.
set_option Elab.async false

namespace Sys2Proof.Proofs

open Sys2Proof Sys2Proof.Machine

variable {s u : State} {kind : ReportKind} {origin : Reporter} {line : Nat} {rest : List Handed} {pass : BitVec 16}

/-! ### The head of the inbox (R101, R110) -/

/-- The pass in which a report taken now touches its entry, of the inbox behind the report (R110). -/
def TouchesIn (p : Patrol) (rest : List Handed) (pass : BitVec 16) : Prop :=
  ((∀ n, .passEnd n ∉ rest) ∧ pass = p.pass) ∨
    (∃ pre post, rest = pre ++ .passEnd pass :: post ∧ ∀ n, .passEnd n ∉ pre)

theorem passEnd?_of_ne {y : Handed} (h : ∀ n, y ≠ .passEnd n) : y.passEnd? = none := by
  cases y with
  | passEnd n => exact absurd rfl (h n)
  | _ => rfl

theorem findSome_passEnd_of_none {l : List Handed} (h : ∀ n, .passEnd n ∉ l) : l.findSome? Handed.passEnd? = none :=
  List.findSome?_eq_none_iff.mpr fun _ hy => passEnd?_of_ne fun n hn => h n (hn ▸ hy)

theorem touchPass_eq (hi : s.inbox = rest) (h : TouchesIn s.patrol rest pass) : s.touchPass = pass := by
  unfold State.touchPass
  rw [hi]
  rcases h with ⟨hnone, hpass⟩ | ⟨pre, post, hrest, hnone⟩
  · rw [findSome_passEnd_of_none hnone, hpass]
  · rw [hrest, List.findSome?_append, findSome_passEnd_of_none hnone]
    rfl

theorem awaitsNotice_iff {r : Report} (hi : s.inbox = .report r :: rest) :
    s.awaitsNotice = true ↔
      9 ≤ s.suspects.countP (fun e => e.status = .requested) ∧ ∃ r, .stranded r ∈ rest ∨ .removal r ∈ rest := by
  have hengine : s.inbox.any Handed.fromEngine = true ↔ ∃ r, .stranded r ∈ rest ∨ .removal r ∈ rest := by
    rw [hi, List.any_eq_true]
    constructor
    · rintro ⟨y, hy, hfrom⟩
      rcases List.mem_cons.mp hy with rfl | hy
      · cases hfrom
      · cases y with
        | stranded q => exact ⟨q, .inl hy⟩
        | removal q => exact ⟨q, .inr hy⟩
        | _ => cases hfrom
    · rintro ⟨q, hq | hq⟩
      · exact ⟨_, List.mem_cons_of_mem _ hq, rfl⟩
      · exact ⟨_, List.mem_cons_of_mem _ hq, rfl⟩
  unfold State.awaitsNotice
  rw [Bool.and_eq_true, decide_eq_true_iff, hengine]

/-- A report at the head of the inbox is taken, unless the bound of R99 has a notice taken first. -/
theorem exec_reportTaken (hreset : s.resetLow = false) {r : Report} (hi : s.inbox = .report r :: rest) :
    exec .reportTaken s = .next (if s.awaitsNotice then s else (s.setInbox rest).takeReport r) := by
  refine (State.unlessHeld_of_high hreset _).trans ?_
  have htake : takeFirst Handed.isReport s.inbox = some ([], .report r, rest) := by rw [hi]; rfl
  rw [htake]
  cases s.awaitsNotice <;> simp

/-! ### The entry of a report (R102, R104, R105, R108) -/

/-- An entry updated by a report taken in pass `pass` (R104). -/
def updatedBy (kind : ReportKind) (pass : BitVec 16) (e : Suspect) : Suspect :=
  match kind with
  | .corrected k =>
    { e with
      count := min (e.count + 1) 255, touched := pass, lastSymbol := some k
      spread := e.spread || decide (∃ l, e.lastSymbol = some l ∧ l ≠ k) }
  | .transient => { e with count := min (e.count + 1) 255, touched := pass }
  | .uncorrectable => { e with ue := true }

/-- An entry as a report taken in pass `pass` leaves it: a STRANDED entry is back in WATCH while a spare is FREE (R108). -/
def reported (s : State) (kind : ReportKind) (pass : BitVec 16) (e : Suspect) : Suspect :=
  if e.status = .stranded ∧ SpareState.free ∈ s.spares then { updatedBy kind pass e with status := .watch }
  else updatedBy kind pass e

theorem satSucc_eq {n : Nat} (h : n ≤ 255) : satSucc 255 n = min (n + 1) 255 := by
  unfold satSucc
  split <;> omega

theorem isSome_freeSpare : s.freeSpare?.isSome = true ↔ SpareState.free ∈ s.spares := by
  unfold State.freeSpare?
  simp

theorem report_status (e : Suspect) (kind : ReportKind) (pass : BitVec 16) : (e.report kind pass).status = e.status := by
  cases kind <;> rfl

theorem report_eq {e : Suspect} (he : e.count ≤ 255) : e.report kind pass = updatedBy kind pass e := by
  cases kind with
  | corrected k => cases hl : e.lastSymbol <;> simp [Suspect.report, updatedBy, satSucc_eq he, hl]
  | transient => simp [Suspect.report, updatedBy, satSucc_eq he]
  | uncorrectable => rfl

theorem unstrand_report {e : Suspect} (he : e.count ≤ 255) :
    s.unstrand (e.report kind pass) = reported s kind pass e := by
  refine (if_congr ?_ ?_ (report_eq he)).trans rfl
  · rw [report_status, Bool.and_eq_true, decide_eq_true_iff, isSome_freeSpare]
  · rw [report_eq he]

theorem updatedBy_region (e : Suspect) : (updatedBy kind pass e).region = e.region := by
  cases kind <;> rfl

theorem reported_region (s : State) (e : Suspect) : (reported s kind pass e).region = e.region := by
  unfold reported
  split <;> exact updatedBy_region e

theorem fires_iff {e : Suspect} {n : Nat} :
    e.fires n = true ↔ e.status = .watch ∧ (e.ue = true ∨ (if e.spread then max 1 (n / 2) else n) ≤ e.count) := by
  rw [Suspect.fires, effectiveThreshold, Bool.and_eq_true, decide_eq_true_iff, Bool.or_eq_true, decide_eq_true_iff, or_comm]

/-- A report updates the entry of its region and evaluates the trigger. -/
theorem updateSuspect_eq {e : Suspect} (he : e.count ≤ 255) (hp : s.touchPass = pass) :
    s.updateSuspect e kind =
      if (reported s kind pass e).fires s.mgmt.params.ceThreshold then
        (s.putSuspect (reported s kind pass e)).fire (reported s kind pass e)
      else s.putSuspect (reported s kind pass e) := by
  unfold State.updateSuspect
  rw [hp, unstrand_report he]

/-! ### The trigger (R106, R107) -/

theorem putSuspect_putSuspect (s : State) {e e' : Suspect} (h : e'.region = e.region) :
    (s.putSuspect e).putSuspect e' = s.putSuspect e' := by
  have hmap : (s.suspects.map fun x => if x.region = e.region then e else x).map
      (fun x => if x.region = e'.region then e' else x) = s.suspects.map fun x => if x.region = e'.region then e' else x := by
    rw [List.map_map, h]
    refine List.map_congr_left fun x _ => ?_
    by_cases hx : x.region = e.region <;> simp [hx]
  exact congrArg s.setSuspects hmap

variable {e : Suspect}

theorem fire_of_manual (hauto : s.mgmt.params.autoRetire = false) :
    (s.putSuspect e).fire e = (s.logEvent (.suspectThreshold e.region e.count)).putSuspect { e with status := .notified } := by
  refine (if_neg (by rw [Bool.not_eq_true]; exact hauto)).trans ?_
  exact putSuspect_putSuspect (s.logEvent (.suspectThreshold e.region e.count)) rfl

theorem fire_of_inCopy (hauto : s.mgmt.params.autoRetire = true) {r : Nat} {source : Bool}
    (h : s.relation e.region = .inCopy r source) : (s.putSuspect e).fire e = s.putSuspect e := by
  refine (if_pos hauto).trans ?_
  rw [show (s.putSuspect e).relation e.region = _ from h]

theorem fire_of_submits (hauto : s.mgmt.params.autoRetire = true) {r : Nat} {k : JobKind}
    (h : (s.relation e.region = .unmapped r ∧ k = .retire) ∨ (s.relation e.region = .inService r ∧ k = .replace)) :
    (s.putSuspect e).fire e = (s.putSuspect e).submitFor e ⟨r, k, .health⟩ := by
  refine (if_pos hauto).trans ?_
  rcases h with ⟨h, rfl⟩ | ⟨h, rfl⟩ <;> rw [show (s.putSuspect e).relation e.region = _ from h]

theorem submitFor_of_duplicate {q : Request} (h : s.submission q.region = .duplicate) :
    (s.putSuspect e).submitFor e q = s.putSuspect { e with status := .requested } := by
  unfold State.submitFor
  rw [show (s.putSuspect e).submission q.region = _ from h]
  exact putSuspect_putSuspect s rfl

theorem submitFor_of_full {q : Request} (h : s.submission q.region = .full) :
    (s.putSuspect e).submitFor e q = (s.putSuspect e).logEvent (.retireRefused q.region) := by
  unfold State.submitFor
  rw [show (s.putSuspect e).submission q.region = _ from h]

theorem submitFor_of_accepted {q : Request} (h : s.submission q.region = .accepted) :
    (s.putSuspect e).submitFor e q =
      (State.logEvent { s with queue := s.queue ++ [q] } (.retireQueued q.region q.kind q.origin)).putSuspect
        { e with status := .requested } := by
  have hput : (s.putSuspect e).submission q.region = .accepted := h
  unfold State.submitFor
  rw [hput, submit_of_accepted hput]
  exact putSuspect_putSuspect (State.logEvent { s with queue := s.queue ++ [q] } _) rfl

theorem submission_eq_duplicate {r : Nat} (h : (∃ x ∈ s.queue, x.region = r) ∨ ∃ x ∈ s.map, x.region = r ∧ x.isCopying = true) :
    s.submission r = .duplicate := by
  rw [submission_eq, if_pos h]

theorem submission_of_new {r : Nat} (hq : ∀ x ∈ s.queue, x.region ≠ r) (hm : ∀ x ∈ s.map, x.isCopying = true → x.region ≠ r) :
    s.submission r = if 8 ≤ s.queue.length then .full else .accepted := by
  rw [submission_eq, if_neg]
  rintro (⟨x, hx, hr⟩ | ⟨x, hx, hr, hc⟩)
  · exact hq x hx hr
  · exact hm x hx hc hr

/-! ### A report taken (R101, R102) -/

/-- The state a report is taken in: its CORRECTED event, if any, logged. -/
def announced (s : State) (kind : ReportKind) (origin : Reporter) (line : Nat) (rest : List Handed) : State :=
  let taken : State := { s with inbox := rest }
  match kind with
  | .corrected k => if s.mgmt.params.eventCorrected then taken.logEvent (.corrected line k origin) else taken
  | _ => taken

theorem correctedEvent_eq : (s.setInbox rest).correctedEvent ⟨kind, origin, line⟩ = announced s kind origin line rest := by
  cases kind <;> rfl

/-- What `announced` leaves as it was. -/
theorem announced_same (s : State) (kind : ReportKind) (origin : Reporter) (line : Nat) (rest : List Handed) :
    ∃ ev, announced s kind origin line rest = { s with inbox := rest, ev := ev } := by
  unfold announced
  cases kind with
  | corrected k => dsimp only; split <;> exact ⟨_, rfl⟩
  | _ => exact ⟨_, rfl⟩

theorem discards_of_kept {x : Relation} (h : ∃ r, x = .unmapped r ∨ x = .inService r ∨ x = .inCopy r false) :
    x.discards = false := by
  obtain ⟨r, rfl | rfl | rfl⟩ := h <;> rfl

theorem takeReport_of_kept
    (h : ∃ r, s.relation (line / 64) = .unmapped r ∨ s.relation (line / 64) = .inService r ∨
      s.relation (line / 64) = .inCopy r false) :
    (s.setInbox rest).takeReport ⟨kind, origin, line⟩ =
      match s.suspectOf (line / 64) with
      | some e => (announced s kind origin line rest).updateSuspect e kind
      | none => (announced s kind origin line rest).newReport (line / 64) kind := by
  have hkept : ((s.setInbox rest).relation (line / 64)).discards = false := discards_of_kept h
  obtain ⟨ev, hsame⟩ := announced_same s kind origin line rest
  have hof : (announced s kind origin line rest).suspectOf (line / 64) = s.suspectOf (line / 64) := by rw [hsame]; rfl
  refine (if_neg (by rw [Bool.not_eq_true]; exact hkept)).trans ?_
  rw [correctedEvent_eq]
  change (match (announced s kind origin line rest).suspectOf (line / 64) with
    | some e => (announced s kind origin line rest).updateSuspect e kind
    | none => (announced s kind origin line rest).newReport (line / 64) kind) = _
  rw [hof]

end Sys2Proof.Proofs
end

section
/-! REPORT_TAKEN (R101 to R108): what the head of the inbox does to its region's entry. -/

-- Fewer threads at once: each takes a part of the memory that a check of the whole text may use.
set_option Elab.async false

namespace Sys2Proof.Proofs

open Sys2Proof Sys2Proof.Machine

variable {s u : State} {kind : ReportKind} {origin : Reporter} {line : Nat} {rest : List Handed} {pass : BitVec 16} {e : Suspect}

/-- The entry `e` of a region in the state `u` that its report finds: the table's, or a new one at the tail (R102). -/
def Finds (s a : State) (q : Nat) (pass : BitVec 16) (e : Suspect) (u : State) : Prop :=
  (s.suspectOf q = some e ∧ e.count ≤ 255 ∧ u = a) ∨
    ((∀ x ∈ s.suspects, x.region ≠ q) ∧ s.suspects.length < 32 ∧ e = ⟨q, 0, none, false, false, pass, .watch⟩ ∧
      u = { a with suspects := s.suspects ++ [e] })

theorem Finds.entry {a : State} {q : Nat} (h : Finds s a q pass e u) : e.region = q ∧ e.count ≤ 255 := by
  rcases h with ⟨hof, hcount, -⟩ | ⟨-, -, rfl, -⟩
  · exact ⟨(suspectOf_eq_some hof).2, hcount⟩
  · exact ⟨rfl, Nat.zero_le _⟩

theorem Finds.same {q : Nat} (h : Finds s (announced s kind origin line rest) q pass e u) :
    ∃ ev l, u = { s with inbox := rest, ev := ev, suspects := l } := by
  obtain ⟨ev, hsame⟩ := announced_same s kind origin line rest
  rcases h with ⟨-, -, hu⟩ | ⟨-, -, -, hu⟩
  · exact ⟨ev, s.suspects, hu.trans hsame⟩
  · exact ⟨ev, s.suspects ++ [e], by rw [hu, hsame]⟩

/-- A report that is not discarded updates the entry it finds. -/
theorem takeReport_of_finds (hpass : TouchesIn s.patrol rest pass)
    (hkept : ∃ r, s.relation (line / 64) = .unmapped r ∨ s.relation (line / 64) = .inService r ∨
      s.relation (line / 64) = .inCopy r false)
    (h : Finds s (announced s kind origin line rest) (line / 64) pass e u) :
    (s.setInbox rest).takeReport ⟨kind, origin, line⟩ = u.updateSuspect e kind := by
  rw [takeReport_of_kept hkept]
  rcases h with ⟨hof, -, rfl⟩ | ⟨hnew, hroom, rfl, rfl⟩
  · rw [hof]
  · have hnone : s.suspectOf (line / 64) = none := by simpa [State.suspectOf] using hnew
    obtain ⟨ev, hsame⟩ := announced_same s kind origin line rest
    have htouch : (announced s kind origin line rest).touchPass = pass := by
      rw [hsame]
      exact touchPass_eq rfl hpass
    rw [hnone]
    dsimp only
    rw [State.newReport, hsame]
    refine (if_pos hroom).trans ?_
    rw [← hsame, State.createSuspect, htouch, hsame]
    rfl

/-- An entry that does not fire is put back as the report leaves it. -/
theorem updateSuspect_of_quiet (he : e.count ≤ 255) (hp : u.touchPass = pass)
    (hf : ¬ (reported u kind pass e).fires u.mgmt.params.ceThreshold = true) :
    u.updateSuspect e kind = u.putSuspect (reported u kind pass e) := by
  rw [updateSuspect_eq he hp, if_neg hf]

theorem updateSuspect_of_fires (he : e.count ≤ 255) (hp : u.touchPass = pass)
    (hf : (reported u kind pass e).fires u.mgmt.params.ceThreshold = true) :
    u.updateSuspect e kind = (u.putSuspect (reported u kind pass e)).fire (reported u kind pass e) := by
  rw [updateSuspect_eq he hp, if_pos hf]

theorem putSuspect_eq {q : Nat} (h : e.region = q) (u : State) :
    u.putSuspect e = { u with suspects := u.suspects.map fun x => if x.region = q then e else x } := by
  subst h
  rfl

/-- Settles O31: the entry a report finds is updated, and the trigger of a firing entry goes by AUTO_RETIRE, the relation of its
region and the result of the submission. -/
theorem reportTaken : Obligations.ReportTaken := by
  intro s kind origin line rest pass hreset hi hpass q mustWait taken a updated fires put
  have hexec := exec_reportTaken hreset hi
  have hwait : s.awaitsNotice = true ↔ mustWait := awaitsNotice_iff hi
  refine ⟨fun h => by rw [hexec, if_pos (hwait.mpr h)], fun h => ?_⟩
  rw [hexec, if_neg (mt hwait.mp h)]
  refine ⟨fun hdiscard => ?_, fun e u hkept hfinds => ?_⟩
  · refine congrArg _ (if_pos ?_)
    change (s.relation q).discards = true
    rcases hdiscard with ⟨r, hr | hr⟩ | hr <;> rw [hr] <;> rfl
  rw [takeReport_of_finds hpass hkept hfinds]
  obtain ⟨hregion, hcount⟩ := Finds.entry hfinds
  have hupdated : (updated e).region = q := (reported_region s e).trans hregion
  have hput {x : Suspect} (w : State) (hx : x.region = q) : w.putSuspect x = put w x := putSuspect_eq hx w
  obtain ⟨ev, l, hu⟩ : ∃ ev l, u = { s with inbox := rest, ev := ev, suspects := l } := Finds.same hfinds
  have htouch : u.touchPass = pass := by rw [hu]; exact touchPass_eq rfl hpass
  have hreported : reported u kind pass e = updated e := by rw [hu]; rfl
  have hparams : u.mgmt.params = s.mgmt.params := by rw [hu]
  have hfires : (reported u kind pass e).fires u.mgmt.params.ceThreshold = true ↔ fires (updated e) := by
    rw [hreported, hparams]
    exact fires_iff
  have hrelation : u.relation (updated e).region = s.relation q := by rw [hupdated, hu]; rfl
  refine ⟨fun hq => ?_, fun hf hauto => ?_, fun hf hauto => ⟨fun r hr => ?_, fun r k hr => ⟨fun htaken => ?_, fun hqueue hmap => ?_⟩⟩⟩
  · rw [updateSuspect_of_quiet hcount htouch (mt hfires.mp hq), hreported, hput u hupdated]
  all_goals rw [updateSuspect_of_fires hcount htouch (hfires.mpr hf), hreported]
  · rw [fire_of_manual (by rw [hparams]; exact hauto)]
    refine (congrArg _ (hput (x := { updated e with status := .notified }) _ hupdated)).trans ?_
    exact congrArg (fun r => Host.Outcome.next (put (u.logEvent (.suspectThreshold r (updated e).count)) _)) hupdated
  · rw [fire_of_inCopy (by rw [hparams]; exact hauto) (hrelation.trans hr), hput u hupdated]
  all_goals
    have hfor : (u.putSuspect (updated e)).fire (updated e) = (u.putSuspect (updated e)).submitFor (updated e) ⟨r, k, .health⟩ :=
      fire_of_submits (by rw [hparams]; exact hauto) (by rw [hrelation]; exact hr)
    rw [hfor]
  · have hduplicate : u.submission r = .duplicate := by
      rw [hu]
      refine submission_eq_duplicate (htaken.imp_right ?_)
      rintro ⟨x, hx, hr, hc⟩
      exact ⟨x, hx, hr, hc⟩
    rw [submitFor_of_duplicate hduplicate]
    exact congrArg _ (hput u hupdated)
  · have hnew : u.submission r = if 8 ≤ s.queue.length then .full else .accepted := by
      rw [hu]
      exact submission_of_new hqueue hmap
    refine ⟨fun hfull => ?_, fun hroom => ?_⟩
    · rw [if_pos hfull] at hnew
      rw [submitFor_of_full hnew, hput u hupdated]
    · rw [if_neg (by omega)] at hnew
      have hq : u.queue = s.queue := by rw [hu]
      rw [submitFor_of_accepted hnew, hq]
      exact congrArg _ (hput _ hupdated)

end Sys2Proof.Proofs
end

section
/-! Eviction from a full Suspect Table (R103): the candidate chosen, and the new entry in its place. -/

-- Fewer threads at once: each takes a part of the memory that a check of the whole text may use.
set_option Elab.async false

namespace Sys2Proof.Proofs

open Sys2Proof Sys2Proof.Machine

variable {s u : State} {pass : BitVec 16} {l pre post : List Suspect} {b c e : Suspect} {q : Nat}

/-! ### The choice -/

theorem candidate_iff : e.candidate = true ↔ e.status ≠ .requested := by
  simp [Suspect.candidate]

theorem evictedBefore_iff :
    e.evictedBefore pass b = true ↔ e.count < b.count ∨ e.count = b.count ∧ b.age pass < e.age pass := by
  simp [Suspect.evictedBefore]

theorem evictionChoice_of_none (h : ∀ e ∈ l, e.status = .requested) : evictionChoice pass l = none := by
  induction l with
  | nil => rfl
  | cons e l ih =>
    obtain ⟨he, hl⟩ := List.forall_mem_cons.mp h
    rw [evictionChoice, ih hl]
    simp [Suspect.candidate, he]

theorem evictionChoice_candidate (h : evictionChoice pass l = some b) : b.candidate = true := by
  induction l with
  | nil => cases h
  | cons e l ih =>
    rw [evictionChoice] at h
    split at h
    · split at h
      · cases h; assumption
      · cases h
    · next c hc =>
      split at h
      · next he => cases h; exact (Bool.and_eq_true_iff.mp he).1
      · cases h; exact ih hc

/-- An entry before the choice of the rest takes its place only when that is not to be evicted rather than it. -/
theorem evictionChoice_cons_of_evicted (h : evictionChoice pass l = some b) (he : e.candidate = true → b.evictedBefore pass e = true) :
    evictionChoice pass (e :: l) = some b := by
  rw [evictionChoice, h]
  refine if_neg ?_
  rw [Bool.and_eq_true]
  rintro ⟨hcandidate, hnot⟩
  rw [he hcandidate] at hnot
  cases hnot

theorem evictionChoice_cons_of_stands (hb : b.candidate = true) (h : ∀ c ∈ l, c.candidate = true → c.evictedBefore pass b = false) :
    evictionChoice pass (b :: l) = some b := by
  rw [evictionChoice]
  cases hl : evictionChoice pass l with
  | none => exact if_pos hb
  | some c => exact if_pos (by rw [hb, h c (evictionChoice_mem hl) (evictionChoice_candidate hl)]; rfl)

/-- The candidate of lowest count, then greatest age, then lowest position. -/
theorem evictionChoice_eq (hb : b.status ≠ .requested)
    (hpre : ∀ x ∈ pre, x.status ≠ .requested → b.count < x.count ∨ b.count = x.count ∧ x.age pass < b.age pass)
    (hpost : ∀ x ∈ post, x.status ≠ .requested → b.count < x.count ∨ b.count = x.count ∧ x.age pass ≤ b.age pass) :
    evictionChoice pass (pre ++ b :: post) = some b := by
  induction pre with
  | nil =>
    refine evictionChoice_cons_of_stands (candidate_iff.mpr hb) fun c hc hcandidate => ?_
    have hc := hpost c hc (candidate_iff.mp hcandidate)
    rw [← Bool.not_eq_true, evictedBefore_iff]
    omega
  | cons x pre ih =>
    obtain ⟨hx, hpre⟩ := List.forall_mem_cons.mp hpre
    exact evictionChoice_cons_of_evicted (ih hpre) fun h => evictedBefore_iff.mpr (hx (candidate_iff.mp h))

/-! ### The entry gone and the new one -/

theorem filter_region_of_ne (h : ∀ e ∈ l, e.region ≠ q) : l.filter (fun e => e.region ≠ q) = l :=
  List.filter_eq_self.mpr fun e he => decide_eq_true (h e he)

theorem filter_region_of_nodup (h : ((pre ++ b :: post).map (·.region)).Nodup) :
    (pre ++ b :: post).filter (fun e => e.region ≠ b.region) = pre ++ post := by
  rw [List.map_append, List.map_cons, List.nodup_append] at h
  obtain ⟨-, hcons, hdisjoint⟩ := h
  obtain ⟨hb, -⟩ := List.nodup_cons.mp hcons
  have hpre : ∀ e ∈ pre, e.region ≠ b.region := fun e he =>
    hdisjoint _ (List.mem_map_of_mem he) _ List.mem_cons_self
  have hpost : ∀ e ∈ post, e.region ≠ b.region := fun e he hr => hb (hr ▸ List.mem_map_of_mem he)
  rw [List.filter_append, List.filter_cons_of_neg (by simp), filter_region_of_ne hpre, filter_region_of_ne hpost]

theorem putSuspect_last {e' : Suspect} (h : ∀ x ∈ l, x.region ≠ e'.region) (he : e.region = e'.region) (hs : s.suspects = l ++ [e]) :
    s.putSuspect e' = { s with suspects := l ++ [e'] } := by
  have hmap : s.suspects.map (fun x => if x.region = e'.region then e' else x) = l ++ [e'] := by
    have hl : l.map (fun x => if x.region = e'.region then e' else x) = l :=
      (List.map_congr_left fun x hx => if_neg (h x hx)).trans (List.map_id' l)
    rw [hs, List.map_append, hl, List.map_singleton, if_pos he]
  exact congrArg s.setSuspects hmap

/-- A first CORRECTED report below its threshold makes an entry of count 1, which does not fire. -/
theorem createSuspect_corrected (hp : s.touchPass = pass) (hnew : ∀ e ∈ s.suspects, e.region ≠ q)
    (hthreshold : 2 ≤ s.mgmt.params.ceThreshold) (k : Nat) :
    s.createSuspect q (.corrected k) =
      { s with suspects := s.suspects ++ [⟨q, 1, some k, false, false, pass, .watch⟩] } := by
  let made : State := s.setSuspects (s.suspects ++ [newSuspect q pass])
  have htouch : made.touchPass = pass := hp
  have hreported : reported made (.corrected k) pass (newSuspect q pass) = ⟨q, 1, some k, false, false, pass, .watch⟩ := by
    simp [reported, updatedBy, newSuspect]
  have hquiet : ¬ (reported made (.corrected k) pass (newSuspect q pass)).fires made.mgmt.params.ceThreshold = true := by
    rw [hreported, fires_iff]
    rintro ⟨-, h | h⟩
    · cases h
    · exact absurd (hthreshold.trans h) (show ¬ 2 ≤ 1 by decide)
  rw [State.createSuspect, hp]
  refine (updateSuspect_of_quiet (Nat.zero_le _) htouch hquiet).trans ?_
  rw [hreported]
  exact putSuspect_last (s := made) (e := newSuspect q pass) hnew rfl rfl

/-- Settles O32: the table is full, so the candidate of R103 gives way to an entry that does not fire; without one the report
is dropped. -/
theorem fullTableEvicts : Obligations.FullTableEvicts := by
  intro s k origin line rest pass hreset hi hevent hthreshold hrelation hfull hnodup hnew hwait hpass age a
  have hnotice : ¬ s.awaitsNotice = true := by
    rw [awaitsNotice_iff hi]
    rintro ⟨hnine, r, hr⟩
    rcases hwait with hlt | hnone
    · omega
    · exact hr.elim (hnone r).1 (hnone r).2
  have hannounced : announced s (.corrected k) origin line rest = a := if_neg (by rw [hevent]; decide)
  have hnone : s.suspectOf (line / 64) = none := by simpa [State.suspectOf] using hnew
  have hkept : ∃ r, s.relation (line / 64) = .unmapped r ∨ s.relation (line / 64) = .inService r ∨
      s.relation (line / 64) = .inCopy r false := by
    obtain ⟨r, hr⟩ := hrelation
    exact ⟨r, hr.imp_right .inl⟩
  have hexec : exec .reportTaken s = .next (a.newReport (line / 64) (.corrected k)) := by
    rw [exec_reportTaken hreset hi, if_neg hnotice, takeReport_of_kept hkept, hnone, hannounced]
  have hlong : ¬ a.suspects.length < 32 := by
    change ¬ s.suspects.length < 32
    omega
  rw [State.newReport, if_neg hlong] at hexec
  refine ⟨fun hall => ?_, fun pre b post hs hb hpre hpost => ?_⟩
  · have hchoice : evictionChoice a.patrol.pass a.suspects = none := evictionChoice_of_none hall
    rw [hexec, hchoice]
  · have hchoice : evictionChoice a.patrol.pass a.suspects = some b := by
      change evictionChoice s.patrol.pass s.suspects = some b
      rw [hs]
      exact evictionChoice_eq hb hpre hpost
    have hleft : a.suspects.filter (fun e => e.region ≠ b.region) = pre ++ post := by
      change s.suspects.filter _ = _
      rw [hs] at hnodup ⊢
      exact filter_region_of_nodup hnodup
    let gone : State := State.logEvent { a with suspects := pre ++ post } (.suspectEvicted b.region b.count)
    have hgone : (a.removeSuspect b.region).logEvent (.suspectEvicted b.region b.count) = gone :=
      congrArg (fun l => (a.setSuspects l).logEvent (.suspectEvicted b.region b.count)) hleft
    have hothers : ∀ e ∈ gone.suspects, e.region ≠ line / 64 := fun e he => by
      refine hnew e ?_
      rw [hs]
      exact (List.Sublist.append_left (List.sublist_cons_self b post) pre).subset he
    rw [hexec, hchoice]
    dsimp only
    rw [hgone, createSuspect_corrected (s := gone) (touchPass_eq rfl hpass) hothers hthreshold]
    rfl

end Sys2Proof.Proofs
end

section
/-! Keys on which nothing becomes ACTIVE (R65, R67), and LINK_RESET (R73, R97, R161). -/

-- Fewer threads at once: each takes a part of the memory that a check of the whole text may use.
set_option Elab.async false

namespace Sys2Proof.Proofs

open Sys2Proof Sys2Proof.Machine

variable {s u : State} {k : Key} {e : Hold}

/-! ### Nothing becomes ACTIVE -/

theorem settle_of_noneNext (n : Nat) {ks : List Key} (h : ∀ k ∈ ks, s.nextOwner k = none) : State.settle n ks s = s := by
  induction n generalizing ks with
  | zero => rfl
  | succ n ih =>
    cases ks with
    | nil => rfl
    | cons k ks =>
      obtain ⟨hk, hks⟩ := List.forall_mem_cons.mp h
      simp only [State.settle, hk]
      exact ih hks

theorem nextOwner_of_first {es : List Hold} (h : s.holdsOn k = e :: es) (hb : s.heldBack e = true) : s.nextOwner k = none := by
  unfold State.nextOwner
  rw [h]
  split
  · rfl
  · exact if_pos hb

/-- Every hold on the key is held back, the oldest among them. -/
theorem nextOwner_of_allHeldBack (h : ∀ e ∈ s.order.entries, e.key = k → s.heldBack e = true) : s.nextOwner k = none := by
  cases hon : s.holdsOn k with
  | nil =>
    unfold State.nextOwner
    rw [hon]
    rfl
  | cons e es =>
    have he : e ∈ s.holdsOn k := by rw [hon]; exact List.mem_cons_self
    obtain ⟨hmem, hkey⟩ := List.mem_filter.mp he
    exact nextOwner_of_first hon (h e hmem (of_decide_eq_true hkey))

/-! ### What a link reset leaves (R73, R161) -/

/-- The holds a link reset drops. -/
theorem droppedByLinkReset_iff : e.droppedByLinkReset = true ↔ e.active = false ∧ ∃ x, e.owner = .host x := by
  unfold Hold.droppedByLinkReset
  cases e.owner <;> simp

theorem orphaned_key (e : Hold) : e.orphaned.key = e.key := by
  unfold Hold.orphaned
  split <;> rfl

theorem orphaned_active (e : Hold) : e.orphaned.active = e.active := by
  unfold Hold.orphaned
  split <;> rfl

theorem orphaned_owner (e : Hold) : e.orphaned.owner = e.owner := by
  unfold Hold.orphaned
  split <;> rfl

/-- The line order without the dropped holds, the other host holds marked as orphans'. -/
def leftOrder (l : LineOrder) : LineOrder :=
  { l with entries := (l.entries.filter fun e => !e.droppedByLinkReset).map Hold.orphaned, finished := 0 }

theorem mem_leftOrder {l : LineOrder} {y : Hold} :
    y ∈ (leftOrder l).entries ↔ ∃ x ∈ l.entries, x.droppedByLinkReset = false ∧ x.orphaned = y := by
  simp [leftOrder, and_assoc]

/-- What a link reset leaves of operations and holds, the port in QUIESCE. -/
def linkLeft (s : State) : State :=
  { s with
    link := ⟨true, []⟩
    ops := (s.ops.filter fun o => o.phase ≠ .waitHold).map fun o => { o with orphan := true }
    order := leftOrder s.order }

/-- With no operation left the port is UP again. -/
def linkUp (s : State) : State := State.logEvent { linkLeft s with link := ⟨false, []⟩ } (.portQuiesced 0)

theorem linkReset_eq :
    s.linkReset =
      (if (linkLeft s).ops.isEmpty then linkUp s else linkLeft s).settleKeys
        ((s.order.entries.filter Hold.droppedByLinkReset).map (·.key)) := rfl

theorem touches_congr {y : Hold} (hkey : y.key = e.key) (howner : y.owner = e.owner) (hmap : u.map = s.map) (hV : u.V = s.V)
    (hengine : u.engine = s.engine) : u.touches y = s.touches e := by
  unfold State.touches
  rw [hkey, howner, hengine, hmap, hV]

/-- On the key of a dropped hold nothing becomes ACTIVE while another hold is ACTIVE on it, none is left on it, or each is held
back by an entry that stays. -/
theorem nextOwner_leftOrder (hu : u.order = leftOrder s.order) (hmap : u.map = s.map) (hV : u.V = s.V)
    (hengine : u.engine = s.engine)
    (h : (∃ x ∈ s.order.entries, x.key = k ∧ x.active = true) ∨
      (∀ x ∈ s.order.entries, x.key = k → x.droppedByLinkReset = true) ∨
      (∃ y ∈ s.order.entries, (∀ n, y.owner ≠ .host n) ∧
        ∃ p, y.key = .phys p ∧ ∀ x ∈ s.order.entries, x.key = k → p ∈ s.touches x)) :
    u.nextOwner k = none := by
  have hmem {y : Hold} : y ∈ u.order.entries ↔ ∃ x ∈ s.order.entries, x.droppedByLinkReset = false ∧ x.orphaned = y := by
    rw [hu]
    exact mem_leftOrder
  rcases h with ⟨x, hx, hkey, hactive⟩ | hall | ⟨y, hy, howner, p, hp, htouch⟩
  · have hstays : x.droppedByLinkReset = false := by
      rw [← Bool.not_eq_true, droppedByLinkReset_iff, hactive]
      rintro ⟨h, -⟩
      cases h
    exact State.nextOwner_of_active (hmem.mpr ⟨x, hx, hstays, rfl⟩) ((orphaned_key x).trans hkey)
      ((orphaned_active x).trans hactive)
  · refine State.nextOwner_of_keyFree fun y hy hk => ?_
    obtain ⟨x, hx, hstays, rfl⟩ := hmem.mp hy
    rw [hall x hx ((orphaned_key x).symm.trans hk)] at hstays
    cases hstays
  · have hstays : y.droppedByLinkReset = false := by
      rw [← Bool.not_eq_true, droppedByLinkReset_iff]
      rintro ⟨-, n, hn⟩
      exact howner n hn
    refine nextOwner_of_allHeldBack fun z hz hk => ?_
    obtain ⟨x, hx, -, rfl⟩ := hmem.mp hz
    refine State.heldBack_iff.mpr ⟨p, ?_, _, hmem.mpr ⟨y, hy, hstays, rfl⟩, (orphaned_key y).trans hp⟩
    rw [touches_congr (orphaned_key x) (orphaned_owner x) hmap hV hengine]
    exact htouch x hx ((orphaned_key x).symm.trans hk)

/-! ### The pulse (R185) -/

theorem exec_linkReset_of_short (hreset : s.resetLow = false) {ns : Nat} (h : ns < 10) : exec (.linkReset ns) s = .next s := by
  refine (State.unlessHeld_of_high hreset _).trans ?_
  have hfree : (decide (10 ≤ ns) && decide (ns < 100)) = false := by simp; omega
  have htaken : pulseTaken s.free ns = false := (if_neg (by omega)).trans (if_pos h)
  rw [hfree, htaken]
  rfl

theorem exec_linkReset_of_long (hreset : s.resetLow = false) {ns : Nat} (h : 100 ≤ ns) :
    exec (.linkReset ns) s = .next (if s.link.quiesce then s else s.linkReset) := by
  refine (State.unlessHeld_of_high hreset _).trans ?_
  have hfree : (decide (10 ≤ ns) && decide (ns < 100)) = false := by simp; omega
  have htaken : pulseTaken s.free ns = true := if_pos h
  rw [hfree, htaken]
  cases s.link.quiesce <;> rfl

/-- The obligation's words for what stays of the line order. -/
theorem leftOrder_entries (l : List Hold) :
    ((l.filter fun e => match e.owner with | .host _ => e.active | _ => true).map fun e =>
      match e.owner with
      | .host _ => { e with orphan := true }
      | _ => e) = (l.filter fun e => !e.droppedByLinkReset).map Hold.orphaned := by
  have hfilter : (fun e : Hold => match e.owner with | .host _ => e.active | _ => true) = fun e => !e.droppedByLinkReset := by
    funext e
    unfold Hold.droppedByLinkReset
    cases e.owner <;> simp
  rw [hfilter]
  rfl

/-- Settles O48: in QUIESCE nothing; else what `linkLeft` leaves, on whose freed keys nothing becomes ACTIVE. -/
theorem linkResetOrphans : Obligations.LinkResetOrphans := by
  intro s ns hreset
  refine ⟨exec_linkReset_of_short hreset, fun hlong => ⟨fun hq => ?_, ?_⟩⟩
  · rw [exec_linkReset_of_long hreset hlong, if_pos hq]
  intro hq dropped hkeys left
  have hleft : left = linkLeft s :=
    congrArg (fun l => { linkLeft s with order := { s.order with entries := l, finished := 0 } })
      (leftOrder_entries s.order.entries)
  have hnone {u : State} (hu : u.order = leftOrder s.order) (hmap : u.map = s.map) (hV : u.V = s.V) (hengine : u.engine = s.engine) :
      u.settleKeys ((s.order.entries.filter Hold.droppedByLinkReset).map (·.key)) = u := by
    refine settle_of_noneNext _ fun k hk => ?_
    obtain ⟨e, he, rfl⟩ := List.mem_map.mp hk
    obtain ⟨hmem, hdropped⟩ := List.mem_filter.mp he
    refine nextOwner_leftOrder hu hmap hV hengine ?_
    exact (hkeys e hmem (droppedByLinkReset_iff.mp hdropped)).imp_right
      (Or.imp_left fun h x hx hkey => droppedByLinkReset_iff.mpr (h x hx hkey))
  rw [exec_linkReset_of_long hreset hlong, if_neg (by rw [hq]; decide), linkReset_eq, hleft]
  refine ⟨fun hops => ?_, fun hops => ?_⟩
  · rw [if_neg (mt List.isEmpty_iff.mp hops), hnone (u := linkLeft s) rfl rfl rfl rfl]
  · rw [if_pos (List.isEmpty_iff.mpr hops), hnone (u := linkUp s) rfl rfl rfl rfl]
    rfl

end Sys2Proof.Proofs
end

section
/-! Requests that wait for their hold (R65, R67): behind an ACTIVE hold on the key, or held back by a PHYS hold. -/

-- Fewer threads at once: each takes a part of the memory that a check of the whole text may use.
set_option Elab.async false

namespace Sys2Proof.Proofs

open Sys2Proof Sys2Proof.Machine

variable {s u : State} {k : Key} {o : Owner} {h : Nat}

/-! ### What makes a request wait -/

/-- A hold on the key is ACTIVE. -/
def Taken (s : State) (k : Key) : Prop := ∃ e ∈ s.order.entries, e.key = k ∧ e.active = true

/-- The physical lines a hold of an owner on a host line would touch. -/
def touched (s : State) (o : Owner) (h : Nat) : List Nat :=
  match o, s.engine with
  | .engine, .copying j => [(s.V + j.spare) * 64 + j.cursor, j.source * 64 + j.cursor]
  | _, _ => [Machine.translate s.V s.map h]

/-- A PHYS hold holds back the oldest hold on a HOST key, or the request where it is the first. -/
def Blocked (s : State) (o : Owner) (h : Nat) : Prop :=
  ∃ first, ((s.KeyFree (.host h) ∧ first = o) ∨
      ∃ pre e post, s.order.entries = pre ++ e :: post ∧ e.key = .host h ∧ (∀ x ∈ pre, x.key ≠ .host h) ∧ first = e.owner) ∧
    ∃ p ∈ touched s first h, ∃ x ∈ s.order.entries, x.key = .phys p

theorem touches_eq {e : Hold} (hk : e.key = .host h) (hengine : u.engine = s.engine) (hmap : u.map = s.map) (hV : u.V = s.V) :
    u.touches e = touched s e.owner h := by
  unfold State.touches touched
  rw [hk, hengine, hmap, hV]
  rfl

theorem holdsOn_of_split {pre post : List Hold} {e : Hold} (hs : s.order.entries = pre ++ e :: post) (he : e.key = k)
    (hpre : ∀ x ∈ pre, x.key ≠ k) : s.holdsOn k = e :: post.filter fun x => x.key = k := by
  unfold State.holdsOn
  rw [hs, List.filter_append, List.filter_eq_nil_iff.mpr fun x hx => by simpa using hpre x hx, List.filter_cons_of_pos (by simpa using he)]
  rfl

theorem holdsOn_addHold (hk : s.KeyFree k) : (s.addHold k o).holdsOn k = [⟨k, o, false, s.order.nextArrival, false⟩] :=
  holdsOn_of_split (s := s.addHold k o) (pre := s.order.entries) (post := []) rfl rfl hk

/-- The oldest hold on the key, or the request just made, is held back. -/
theorem nextOwner_of_blocked (hb : Blocked s o h) : (s.addHold (.host h) o).nextOwner (.host h) = none := by
  obtain ⟨first, hfirst, p, hp, x, hx, hxp⟩ := hb
  have hback {e : Hold} (he : e.key = .host h) (ho : first = e.owner) : (s.addHold (.host h) o).heldBack e = true := by
    refine State.heldBack_iff.mpr ⟨p, ?_, x, List.mem_append_left _ hx, hxp⟩
    rw [touches_eq (s := s) (u := s.addHold (.host h) o) he rfl rfl rfl, ← ho]
    exact hp
  rcases hfirst with ⟨hfree, rfl⟩ | ⟨pre, e, post, hs, he, hpre, rfl⟩
  · exact nextOwner_of_first (holdsOn_addHold hfree) (hback rfl rfl)
  · refine nextOwner_of_first (holdsOn_of_split (s := s.addHold (.host h) o) (pre := pre) (e := e)
      (post := post ++ [⟨.host h, o, false, s.order.nextArrival, false⟩]) ?_ he hpre) (hback he rfl)
    change s.order.entries ++ _ = _
    rw [hs, List.append_assoc, List.cons_append]

theorem nextOwner_of_taken (ht : Taken s k) : (s.addHold k o).nextOwner k = none := by
  obtain ⟨e, he, hk, ha⟩ := ht
  exact State.nextOwner_of_active (List.mem_append_left _ he) hk ha

/-- A request that nothing lets through stands WAITING at the tail. -/
theorem requestHold_of_noneNext (h : (s.addHold k o).nextOwner k = none) :
    s.requestHold k o = { s with order := s.order.append k o false } :=
  settle_of_noneNext _ fun _ hk => List.mem_singleton.mp hk ▸ h

theorem requestHold_waits (hw : Taken s (.host h) ∨ Blocked s o h) :
    s.requestHold (.host h) o = { s with order := s.order.append (.host h) o false } :=
  requestHold_of_noneNext (hw.elim nextOwner_of_taken nextOwner_of_blocked)

/-! ### The requests -/

/-- A visit whose hold waits. -/
theorem visitStarted_of_waits (hcopy : regionUnderCopy s.map (s.patrol.position / 64) = false)
    (hw : Taken s (.host s.patrol.position) ∨ Blocked s .patrol s.patrol.position) :
    visitStarted s =
      { s with
        patrol :=
          { s.patrol with
            timer := .running s.mgmt.params.patrolIntervalUs
            visit := some ⟨s.patrol.position, none, .waitHold, 0, .none⟩ }
        order := s.order.append (.host s.patrol.position) .patrol false } := by
  let w : State := { timerRestarted s with
    patrol := { (timerRestarted s).patrol with visit := some ⟨s.patrol.position, none, .waitHold, 0, .none⟩ } }
  have hstart : s.startVisit = (w.addHold (.host s.patrol.position) .patrol, [.host s.patrol.position]) :=
    if_neg (by rw [Bool.not_eq_true]; exact hcopy)
  unfold visitStarted
  rw [hstart]
  exact requestHold_waits (s := w) hw

/-- Settles O20: each request is one for a hold that nothing lets through. -/
theorem requestWaitsItsTurn : Obligations.RequestWaitsItsTurn := by
  intro s hreset touched taken blocked
  refine ⟨fun req tag line => ?_, fun us ht hrun hv hb hcopy hw => ?_, fun j hj => ?_, fun i x hf hc hidle hcopy hi hx hkind htaken => ?_,
    fun line c kind => ?_⟩
  · intro h hacc hw
    rw [exec_command hreset, accept_of_accepts hacc]
    exact congrArg _ (requestHold_waits (s := ((s.count req.counter).setLink { s.link with busy := s.link.busy ++ [tag] }).setOps
      (s.ops ++ [waitingOp tag req h])) hw)
  · rw [exec_intervalTimerRunOut hreset ht, timerRunOut_of_serving hrun hv hb,
      visitStarted_of_waits (regionUnderCopy_eq_false hcopy) hw]
  · intro h u hw
    refine (State.unlessHeld_of_high hreset _).trans ?_
    rw [hj]
    exact congrArg (fun v => Host.Outcome.next (State.reply v .done [])) (requestHold_waits (s := u) hw)
  · rw [exec_spareTest hreset hf hc hidle hi hx, if_neg (by rintro ⟨e, he, h⟩; simp [hcopy e he] at h),
      if_neg (by rcases hkind with rfl | rfl <;> simp)]
    refine congrArg (fun v => Host.Outcome.next (State.reply v .accepted [])) ?_
    exact requestHold_of_noneNext (s := (s.setSpare i.toNat .testing).setEngine (.testing ⟨i.toNat, 0, .waitHold, 0, x⟩))
      (nextOwner_of_taken htaken)
  · intro p key hf hc hd hp hcopy hcommand hw
    have hstart : s.startDiag kind p =
        { s with mgmt := { s.mgmt with diag := some ⟨kind, p⟩ }, order := s.order.append key .diag false } := by
      let w : State := s.setMgmt { s.mgmt with diag := some ⟨kind, p⟩ }
      change w.requestHold key .diag = { w with order := w.order.append key .diag false }
      rcases hw with htaken | ⟨h, hkey, hblocked⟩
      · exact requestHold_of_noneNext (s := w) (nextOwner_of_taken htaken)
      · rw [hkey]
        exact requestHold_waits (s := w) (.inr hblocked)
    have hplain : ¬ ∃ r b, s.relation (p / 64) = .inCopy r b := fun ⟨r, b, hr⟩ => hcopy r b hr
    rcases hcommand with ⟨rfl, rfl⟩ | ⟨hb, hvalid, hstore⟩
    · rw [exec_diagFetch hreset, diagChecked_of_passed hf hc hd hp hplain, hstart]
    · have hno : s.inService = false := by simp [State.inService, hb]
      have hexec {mode : Byte} (hmode : mode = 0x00 ∨ mode = 0x01) :
          exec (.diagStore line mode) s =
            .next ((s.startDiag (if mode = 0x00 then .storeCode else .storePoison) p).reply .accepted []) := by
        rw [exec_diagStore hreset line hmode, diagChecked_of_passed hf hc hd hp hplain, if_neg (by simp [hvalid]),
          if_neg (by simp [hno])]
      rcases hstore with ⟨rfl, rfl⟩ | ⟨rfl, rfl⟩
      · rw [hexec (.inl rfl), if_pos rfl, hstart]
      · rw [hexec (.inr rfl), if_neg (by decide), hstart]

end Sys2Proof.Proofs
end

section
/-! The release of a hold makes the oldest waiter of its key ACTIVE, or lets go what a PHYS hold held back (R66 to R68). -/

-- Fewer threads at once: each takes a part of the memory that a check of the whole text may use.
set_option Elab.async false

namespace Sys2Proof.Proofs

open Sys2Proof Sys2Proof.Machine

variable {s u r : State} {k : Key} {o : Owner} {h p : Nat} {t : Fin 64} {eb : Hold} {more : List Hold}

/-! ### Activation of the oldest waiter -/

theorem active_activateOldest {es : List Hold} (hk : ∃ e ∈ es, e.key = k) : ∃ e ∈ activateOldest k es, e.key = k ∧ e.active = true := by
  induction es with
  | nil =>
    obtain ⟨e, he, -⟩ := hk
    cases he
  | cons x xs ih =>
    rw [activateOldest]
    by_cases hx : x.key = k
    · rw [if_pos hx]
      exact ⟨_, List.mem_cons_self, hx, rfl⟩
    · rw [if_neg hx]
      obtain ⟨e, he, hek⟩ := hk
      obtain ⟨y, hy, hyk⟩ := ih ⟨e, (List.mem_cons.mp he).resolve_left fun h => hx (h ▸ hek), hek⟩
      exact ⟨y, List.mem_cons_of_mem _ hy, hyk⟩

theorem nextOwner_of_oldest (hon : u.holdsOn k = eb :: more) (hw : ∀ e ∈ eb :: more, e.active = false) (hb : u.heldBack eb = false) :
    u.nextOwner k = some eb.owner := by
  have hnone : ¬ (eb :: more).any (·.active) = true := by
    rw [List.any_eq_true]
    rintro ⟨e, he, ha⟩
    rw [hw e he] at ha
    cases ha
  unfold State.nextOwner
  rw [hon, if_neg hnone]
  exact if_neg (by rw [hb]; decide)

/-- The oldest waiter begins; then its key, and every other key to settle, has an ACTIVE hold. -/
theorem settle_activates {n : Nat} {ks : List Key} (hon : u.holdsOn k = eb :: more) (hw : ∀ e ∈ eb :: more, e.active = false)
    (hb : u.heldBack eb = false) (hbegin : (u.activate k).begin eb.owner = (r, [])) (horder : r.order = (u.activate k).order)
    (hks : ∀ k' ∈ ks, k' = k) : State.settle (n + 1) (k :: ks) u = r := by
  have heb : eb ∈ u.holdsOn k := by rw [hon]; exact List.mem_cons_self
  obtain ⟨hmem, hkey⟩ := List.mem_filter.mp heb
  obtain ⟨e, he, hek, ha⟩ := active_activateOldest ⟨eb, hmem, of_decide_eq_true hkey⟩
  have hnone : r.nextOwner k = none := State.nextOwner_of_active (by rw [horder]; exact he) hek ha
  simp only [State.settle, nextOwner_of_oldest hon hw hb, hbegin, List.append_nil]
  exact settle_of_noneNext n fun k' hk' => (List.mem_cons.mp hk').elim (fun h => h ▸ hnone) fun h => hks k' h ▸ hnone

theorem settle_of_none {n : Nat} {ks : List Key} (hk : s.nextOwner k = none) :
    State.settle (n + 1) (k :: ks) s = State.settle n ks s := by
  simp only [State.settle, hk]

theorem nextOwner_of_allActive (h : ∀ e ∈ s.order.entries, e.key = k → e.active = true) : s.nextOwner k = none := by
  by_cases hfree : s.KeyFree k
  · exact State.nextOwner_of_keyFree hfree
  · simp only [State.KeyFree, not_forall, not_not] at hfree
    obtain ⟨e, he, hk⟩ := hfree
    exact State.nextOwner_of_active he hk (h e he hk)

/-! ### What a waiter begins with (R66) -/

theorem beginHost_of_reads {b : HostOp} (hreq : b.req = .rd ∨ ∃ d m, b.req = .wrp d m ∧ m ≠ 0 ∧ m ≠ BitVec.allOnes 64) :
    u.beginHost b =
      (u.withOp { b with phys := some (Machine.translate u.V u.map b.line), phase := .read, attempts := 1 }).issue
        ⟨.host b.tag, .mrd, Machine.translate u.V u.map b.line⟩ := by
  obtain ⟨tag, req, line, phys, phase, attempts, sent, orphan⟩ := b
  dsimp only at hreq
  rcases hreq with rfl | ⟨d, m, rfl, h0, h1⟩
  · rfl
  · exact (if_neg h1).trans (if_neg h0)

theorem beginHost_of_writes {b : HostOp} {d : Data} (hreq : b.req = .wr d ∨ b.req = .wrp d (BitVec.allOnes 64)) :
    u.beginHost b =
      (u.withOp { b with phys := some (Machine.translate u.V u.map b.line), phase := .dataWrite }).issue
        ⟨.host b.tag, .mwr (encode d), Machine.translate u.V u.map b.line⟩ := by
  obtain ⟨tag, req, line, phys, phase, attempts, sent, orphan⟩ := b
  dsimp only at hreq
  rcases hreq with rfl | rfl
  · rfl
  · unfold State.beginHost
    exact (if_pos rfl :)

theorem begin_host {b : HostOp} (hop : u.opOf b.tag = some b) : u.begin (.host b.tag) = (u.beginHost b, []) := by
  unfold State.begin
  simp only [hop]

theorem begin_host_read {b : HostOp} (hop : u.opOf b.tag = some b)
    (hreq : b.req = .rd ∨ ∃ d m, b.req = .wrp d m ∧ m ≠ 0 ∧ m ≠ BitVec.allOnes 64) (hcan : u.CanIssue t)
    (hp : Machine.translate u.V u.map b.line = p) :
    u.begin (.host b.tag) =
      (State.issued (u.withOp { b with phys := some p, phase := .read, attempts := 1 }) t (.host b.tag) .mrd p, []) := by
  subst hp
  rw [begin_host hop, beginHost_of_reads hreq, State.issue_of_canIssue (s := u.withOp _) (hcan.of rfl rfl)]

theorem begin_host_write {b : HostOp} {d : Data} (hop : u.opOf b.tag = some b)
    (hreq : b.req = .wr d ∨ b.req = .wrp d (BitVec.allOnes 64)) (hcan : u.CanIssue t)
    (hp : Machine.translate u.V u.map b.line = p) :
    u.begin (.host b.tag) =
      (State.issued (u.withOp { b with phys := some p, phase := .dataWrite }) t (.host b.tag) (.mwr (encode d)) p, []) := by
  subst hp
  rw [begin_host hop, beginHost_of_writes hreq, State.issue_of_canIssue (s := u.withOp _) (hcan.of rfl rfl)]

theorem begin_patrol {v : Visit} (hv : u.patrol.visit = some v) (hcopy : regionUnderCopy u.map (v.line / 64) = false)
    (hcan : u.CanIssue t) (hp : Machine.translate u.V u.map v.line = p) :
    u.begin .patrol =
      (State.issued { u with patrol := { u.patrol with visit := some { v with phys := some p, phase := .read, attempts := 1 } } } t
        .patrol .mrd p, []) := by
  subst hp
  unfold State.begin
  simp only [hv]
  refine (if_neg (by rw [Bool.not_eq_true]; exact hcopy)).trans ?_
  exact congrArg (fun w => (w, [])) (issue_setPatrol hcan _ _)

theorem begin_engine {j : CopyJob} (hj : u.engine = .copying j) (hcan : u.CanIssue t) :
    u.begin .engine =
      (State.issued { u with engine := .copying { j with phase := .read, attempts := 1 } } t .engine .mrd
        (j.source * 64 + j.cursor), []) := by
  unfold State.begin State.beginEngine
  simp only [hj]
  exact congrArg (fun w => (w, [])) (issue_setEngine hcan _ _)

theorem begin_diag {d : DiagOp} (hd : u.mgmt.diag = some d) (hcan : u.CanIssue t) :
    u.begin .diag = (u.issued t .diag (u.diagKindOp d.kind) d.line, []) := by
  unfold State.begin State.beginDiag
  simp only [hd, State.issue_of_canIssue hcan]

/-! ### What a waiter would touch (R67) -/

theorem touches_of_ne {e : Hold} (hk : e.key = .host h) (ho : e.owner ≠ .engine) : s.touches e = [Machine.translate s.V s.map h] := by
  rw [touches_eq (s := s) hk rfl rfl rfl]
  unfold touched
  split
  · next heq _ => exact absurd heq ho
  · rfl

theorem touches_of_copying {e : Hold} {j : CopyJob} (hk : e.key = .host h) (ho : e.owner = .engine) (hj : s.engine = .copying j) :
    s.touches e = [(s.V + j.spare) * 64 + j.cursor, j.source * 64 + j.cursor] := by
  rw [touches_eq (s := s) hk rfl rfl rfl]
  unfold touched
  rw [ho, hj]

/-! ### The release of a host operation's hold -/

theorem filter_owner_ne (hon : s.holdsOn k = more) :
    (s.order.entries.filter fun e => e.owner ≠ o).filter (fun e => e.key = k) = more.filter fun e => e.owner ≠ o := by
  rw [← hon, State.holdsOn, List.filter_filter, List.filter_filter]
  exact List.filter_congr fun e _ => Bool.and_comm _ _

theorem filter_owner_eq_self {l : List Hold} (h : ∀ e ∈ l, e.owner ≠ o) : l.filter (fun e => e.owner ≠ o) = l :=
  List.filter_eq_self.mpr fun e he => decide_eq_true (h e he)

theorem releaseHostOp_activates {a : HostOp} {ea : Hold} (horphan : a.orphan = false) (hf : r.bridge.state ≠ .format)
    (hold : s.holdOf (.host a.tag) = some ea) (hon : s.holdsOn (.host a.line) = ea :: eb :: more) (hea : ea.owner = .host a.tag)
    (hrest : ∀ e ∈ eb :: more, e.active = false ∧ e.owner ≠ .host a.tag) (hb : (s.hostDone a.tag).heldBack eb = false)
    (hbegin : ((s.hostDone a.tag).activate (.host a.line)).begin eb.owner = (r, []))
    (horder : r.order = ((s.hostDone a.tag).activate (.host a.line)).order) : s.releaseHostOp a = r := by
  have hkey : ea.key = .host a.line := by
    have hmem : ea ∈ s.holdsOn (.host a.line) := by rw [hon]; exact List.mem_cons_self
    exact of_decide_eq_true (List.mem_filter.mp hmem).2
  have hleft : (s.hostDone a.tag).holdsOn (.host a.line) = eb :: more := by
    refine (filter_owner_ne hon).trans ?_
    rw [List.filter_cons_of_neg (by simp [hea]), filter_owner_eq_self fun e he => (hrest e he).2]
  unfold State.releaseHostOp
  rw [State.endHostOp_of_not_orphan horphan, hold]
  unfold State.afterRelease
  simp only [hkey, State.keysFreed]
  have hsettle : (s.hostDone a.tag).settleKeys [.host a.line] = r :=
    settle_activates hleft (fun e he => (hrest e he).1) hb hbegin horder (by simp)
  rw [hsettle, State.formatNotice_of_ne hf]

/-! ### The release of a PHYS hold -/

/-- The holds that a PHYS hold held back, all on one HOST key: the oldest of them becomes ACTIVE. -/
theorem release_activates {ed : Hold} (hf : r.bridge.state ≠ .format) (hold : s.holdOf o = some ed) (hkey : ed.key = .phys p)
    (hwait : ∀ e ∈ s.order.entries, e.active = false → e.key = .host h) (hon : s.holdsOn (.host h) = eb :: more)
    (hrest : ∀ e ∈ eb :: more, e.active = false ∧ e.owner ≠ o) (htouch : p ∈ s.touches eb)
    (hb : (s.removeHold o).heldBack eb = false) (hbegin : ((s.removeHold o).activate (.host h)).begin eb.owner = (r, []))
    (horder : r.order = ((s.removeHold o).activate (.host h)).order) : s.release o = r := by
  obtain ⟨hebw, hebo⟩ := hrest eb List.mem_cons_self
  have heb : eb ∈ (s.removeHold o).order.entries := by
    have hmem : eb ∈ s.holdsOn (.host h) := by rw [hon]; exact List.mem_cons_self
    exact List.mem_filter.mpr ⟨(List.mem_filter.mp hmem).1, decide_eq_true hebo⟩
  have hwaits : ∀ e ∈ (s.removeHold o).order.entries, e.active = false → e.key = .host h := fun e he =>
    hwait e (List.mem_filter.mp he).1
  have hleft : (s.removeHold o).holdsOn (.host h) = eb :: more := by
    refine (filter_owner_ne hon).trans (filter_owner_eq_self fun e he => (hrest e he).2)
  have hphys : (s.removeHold o).nextOwner (.phys p) = none := by
    refine nextOwner_of_allActive fun e he hk => Bool.of_not_eq_false fun ha => ?_
    rw [hwaits e he ha] at hk
    cases hk
  let freed : List Key :=
    ((s.removeHold o).order.entries.filter fun e => !e.active && ((s.removeHold o).touches e).contains p).map (·.key)
  have hfreed : ∀ k ∈ freed, k = .host h := by
    intro k hk
    obtain ⟨e, he, rfl⟩ := List.mem_map.mp hk
    obtain ⟨hmem, he⟩ := List.mem_filter.mp he
    exact hwaits e hmem (by simpa using (Bool.and_eq_true_iff.mp he).1)
  have hsettle : (s.removeHold o).settleKeys (.phys p :: freed) = r := by
    obtain ⟨k, ks, hks⟩ : ∃ k ks, freed = k :: ks := by
      refine List.exists_cons_of_ne_nil (List.ne_nil_of_mem (a := eb.key) (List.mem_map_of_mem (List.mem_filter.mpr ⟨heb, ?_⟩)))
      have htouches : p ∈ (s.removeHold o).touches eb := htouch
      simp [hebw, htouches]
    rw [hks] at hfreed ⊢
    obtain ⟨rfl, htail⟩ := List.forall_mem_cons.mp hfreed
    exact (settle_of_none hphys).trans (settle_activates hleft (fun e he => (hrest e he).1) hb hbegin horder htail)
  unfold State.release
  rw [hold]
  unfold State.afterRelease
  simp only [hkey, State.keysFreed]
  exact (congrArg State.formatNotice hsettle).trans (State.formatNotice_of_ne hf)

end Sys2Proof.Proofs
end

section
/-! The waiter that a host write's release or a diagnostic's PHYS hold lets through (R66 to R68). -/

-- Fewer threads at once: each takes a part of the memory that a check of the whole text may use.
set_option Elab.async false

namespace Sys2Proof.Proofs

open Sys2Proof Sys2Proof.Machine

variable {s u r : State} {h p : Nat} {t : Fin 64} {a : HostOp} {ea eb : Hold} {more : List Hold}

/-! ### A host write acknowledged -/

theorem opOf_filter {b : HostOp} {tag : Fin 32} (hb : s.opOf b.tag = some b) (hne : b.tag ≠ tag) :
    (s.ops.filter fun o => o.tag ≠ tag).find? (fun o => o.tag = b.tag) = some b := by
  have hfun : (fun o : HostOp => decide (decide (o.tag ≠ tag) = true ∧ decide (o.tag = b.tag) = true)) =
      fun o => decide (o.tag = b.tag) := by
    funext o
    by_cases ho : o.tag = b.tag <;> simp [ho, hne]
  rw [List.find?_filter, hfun]
  exact hb

/-- The operation whose data write is acknowledged has responded and is gone. -/
def writeDone (s : State) (a : HostOp) : State := (s.responded a.tag .ok (a.req.responseData Data.zero)).hostDone a.tag

/-- The acknowledged write of a host operation ends it, and the oldest waiter of its key begins. -/
theorem hostAck_activates (hphase : a.phase = .dataWrite) (horphan : a.orphan = false) (hf : r.bridge.state ≠ .format)
    (hold : s.holdOf (.host a.tag) = some ea) (hon : s.holdsOn (.host a.line) = ea :: eb :: more) (hea : ea.owner = .host a.tag)
    (hrest : ∀ e ∈ eb :: more, e.active = false ∧ e.owner ≠ .host a.tag)
    (hfree : ∀ q ∈ s.touches eb, s.KeyFree (.phys q))
    (hbegin : ((writeDone s a).activate (.host a.line)).begin eb.owner = (r, []))
    (horder : r.order = ((writeDone s a).activate (.host a.line)).order) : s.hostAck a = r := by
  have hrespond : s.respond a .ok Data.zero = s.responded a.tag .ok (a.req.responseData Data.zero) :=
    State.respond_of horphan .ok Data.zero
  have hback : (writeDone s a).heldBack eb = false :=
    State.heldBack_of_keyFree fun q hq e he => hfree q hq e (List.mem_filter.mp he).1
  unfold State.hostAck
  rw [hphase]
  dsimp only
  unfold State.respondAndRelease
  rw [hrespond]
  exact releaseHostOp_activates (s := s.responded a.tag .ok (a.req.responseData Data.zero)) horphan hf hold hon hea hrest hback
    hbegin horder

/-! ### A diagnostic operation ended -/

/-- A diagnostic operation on a PHYS key ends, and the oldest of the holds it held back begins. -/
theorem tellOwner_diag_activates {d : DiagOp} {ed : Hold} (hb : s.bridge.state = .online ∨ s.bridge.state = .degraded)
    (hd : s.mgmt.diag = some d) (hold : s.holdOf .diag = some ed) (hkey : ed.key = .phys p)
    (hwait : ∀ e ∈ s.order.entries, e.active = false → e.key = .host h) (hon : s.holdsOn (.host h) = eb :: more)
    (hrest : ∀ e ∈ eb :: more, e.active = false ∧ e.owner ≠ .diag) (htouch : p ∈ s.touches eb)
    (hfree : ∀ q ∈ s.touches eb, ∀ e ∈ s.order.entries, e.key = .phys q → e.owner = .diag) (e : MemEnd)
    (hf : r.bridge.state ≠ .format) (hbegin : ((diagEnded s d e).activate (.host h)).begin eb.owner = (r, []))
    (horder : r.order = ((diagEnded s d e).activate (.host h)).order) : s.tellOwner .diag e = r := by
  obtain ⟨hc, -, -⟩ := State.inService_of hb
  have hback : (diagEnded s d e).heldBack eb = false := by
    refine State.heldBack_of_keyFree fun q hq x hx hk => ?_
    obtain ⟨hx, howner⟩ := List.mem_filter.mp hx
    exact of_decide_eq_true howner (hfree q hq x hx hk)
  rw [State.tellOwner_of_ne hc]
  dsimp only
  unfold State.diagEnd
  simp only [hd, finishDiag_eq]
  exact release_activates (s := s.setMgmt _) hf hold hkey hwait hon hrest htouch hback hbegin horder

/-- Settles O21: the end of the operation lets the oldest waiter through, which begins by its owner's rules. -/
theorem releaseActivatesOldestWaiter : Obligations.ReleaseActivatesOldestWaiter := by
  refine ⟨fun s a ea eb more g t line w hb hop hphase horphan ha hcan hold hon hea hrest => ?_,
    fun s d ed eb more g t line p h w v hb hd hcan hold hkey hwait hon hrest => ?_⟩
  · intro p u freed answers
    obtain ⟨hc, hf, -⟩ := State.inService_of hb
    have hkey : eb.key = .host a.line := by
      have hmem : eb ∈ s.holdsOn (.host a.line) := by
        rw [State.holdsOn, hon]
        exact List.mem_cons_of_mem _ List.mem_cons_self
      exact of_decide_eq_true (List.mem_filter.mp hmem).2
    have hanswers {r : State} (hfree : ∀ q ∈ s.touches eb, s.KeyFree (.phys q)) (hbegin : freed.begin eb.owner = (r, []))
        (hr : r.bridge = s.bridge) (horder : r.order = freed.order) : answers r := by
      refine (exec_writeAck ha).trans (congrArg _ ?_)
      rw [tellOwner_host (s := s.answered g) hc hop]
      exact hostAck_activates (s := s.answered g) hphase horphan (by rw [hr]; exact hf) hold hon hea hrest hfree hbegin horder
    have hcanf : freed.CanIssue t := hcan.of rfl rfl
    have hline {o : Owner} (ho : eb.owner = o) (hne : o ≠ .engine) (hfree : s.KeyFree (.phys p)) :
        ∀ q ∈ s.touches eb, s.KeyFree (.phys q) := by
      rw [touches_of_ne hkey (ho ▸ hne)]
      intro q hq
      rwa [List.mem_singleton.mp hq]
    refine ⟨fun b hfree ho hopb hline' => ?_, fun v hfree ho hv hvline hcopy => ?_, fun j hspare hsource ho hj => ?_,
      fun d hfree ho hd => ?_⟩
    · have hne : b.tag ≠ a.tag := fun h => (hrest eb List.mem_cons_self).2 (ho.trans (congrArg Owner.host h))
      have hopf : freed.opOf b.tag = some b := opOf_filter hopb hne
      have hp : Machine.translate freed.V freed.map b.line = p := congrArg (Machine.translate s.V s.map) hline'
      refine ⟨fun hreq => ?_, fun d hreq => ?_⟩
      · exact hanswers (hline ho (by simp) hfree) (by rw [ho]; exact begin_host_read hopf hreq hcanf hp) rfl rfl
      · exact hanswers (hline ho (by simp) hfree) (by rw [ho]; exact begin_host_write hopf hreq hcanf hp) rfl rfl
    · have hcopyf : regionUnderCopy freed.map (v.line / 64) = false := by
        rw [hvline]
        exact regionUnderCopy_eq_false hcopy
      have hp : Machine.translate freed.V freed.map v.line = p := congrArg (Machine.translate s.V s.map) hvline
      exact hanswers (hline ho (by simp) hfree) (by rw [ho]; exact begin_patrol (u := freed) hv hcopyf hcanf hp) rfl rfl
    · refine hanswers ?_ (by rw [ho]; exact begin_engine (u := freed) hj hcanf) rfl rfl
      rw [touches_of_copying hkey ho hj]
      exact List.forall_mem_cons.mpr ⟨hspare, List.forall_mem_singleton.mpr hsource⟩
    · have hbegin : freed.begin .diag = (freed.issued t .diag (freed.diagKindOp d.kind) d.line, []) := begin_diag hd hcanf
      have hexec := hanswers (r := freed.issued t .diag (freed.diagKindOp d.kind) d.line) (hline ho (by simp) hfree)
        (by rw [ho]; exact hbegin) rfl rfl
      refine Eq.trans hexec ?_
      cases d.kind <;> rfl
  · intro ended thenBegins
    obtain ⟨hc, hf, -⟩ := State.inService_of hb
    have hkeyb : eb.key = .host h := by
      have hmem : eb ∈ s.holdsOn (.host h) := by
        rw [State.holdsOn, hon]
        exact List.mem_cons_self
      exact of_decide_eq_true (List.mem_filter.mp hmem).2
    have hends (e : MemEnd) : (diagEnded (s.answered g) d e).activate (.host h) =
        ended (if d.kind = .fetch then fetchBuffer d.line e else s.mgmt.fill) := rfl
    have hcanf (fill : Buffer) : (ended fill).CanIssue t := hcan.of rfl rfl
    have hthen {begun : State → State} (htouch : p ∈ s.touches eb)
        (hfree : ∀ q ∈ s.touches eb, ∀ e ∈ s.order.entries, e.key = .phys q → e.owner = .diag)
        (hbegin : ∀ fill, (ended fill).begin eb.owner = (begun (ended fill), []))
        (hbegun : ∀ fill, (begun (ended fill)).bridge = s.bridge ∧ (begun (ended fill)).order = (ended fill).order) :
        thenBegins begun := by
      have htold (e : MemEnd) : (s.answered g).tellOwner .diag e =
          begun (ended (if d.kind = .fetch then fetchBuffer d.line e else s.mgmt.fill)) := by
        obtain ⟨hbridge, horder⟩ := hbegun (if d.kind = .fetch then fetchBuffer d.line e else s.mgmt.fill)
        exact tellOwner_diag_activates (s := s.answered g) hb hd hold hkey hwait hon hrest htouch hfree e
          (by rw [hbridge]; exact hf) (by rw [hends]; exact hbegin _) (by rw [hends]; exact horder)
      refine ⟨fun hk ha x hx => ?_, fun hk ha => ?_⟩
      · have hfill : fetchBuffer d.line (.read w (classify w)) = ⟨w, d.line, x, true⟩ := by
          rcases hx with ⟨y, hw, rfl⟩ | ⟨k, y, hw, rfl⟩ | ⟨hw, rfl⟩ | ⟨hw, rfl⟩ <;> rw [hw] <;> rfl
        rw [exec_readData w ha, htold, if_pos hk, hfill]
      · rw [exec_writeAck ha, htold, if_neg hk]
    refine ⟨fun b ho hop hreq hline hp hall => ?_, fun j ho hj => ?_⟩
    · have htouches : s.touches eb = [p] := by rw [hp]; exact touches_of_ne hkeyb (by simp [ho])
      refine hthen
        (begun := fun u => State.issued (u.withOp { b with phys := some p, phase := .read, attempts := 1 }) t (.host b.tag) .mrd p)
        (by rw [htouches]; exact List.mem_cons_self)
        (by rw [htouches]; exact List.forall_mem_singleton.mpr hall) (fun fill => ?_) fun fill => ⟨rfl, rfl⟩
      rw [ho]
      exact begin_host_read (u := ended fill) hop (.inl hreq) (hcanf fill) (by rw [hp, hline]; rfl)
    · intro spare source hp hall
      have htouches : s.touches eb = [spare, source] := touches_of_copying hkeyb ho hj
      refine hthen
        (begun := fun u =>
          State.issued { u with engine := .copying { j with phase := .read, attempts := 1 } } t .engine .mrd source)
        (by rw [htouches]; simpa using hp) ?_ (fun fill => ?_) fun fill => ⟨rfl, rfl⟩
      · rw [htouches]
        intro q hq e he hk
        rcases List.mem_pair.mp hq with rfl | rfl
        · exact hall e he (.inl hk)
        · exact hall e he (.inr hk)
      · rw [ho]
        exact begin_engine (u := ended fill) hj (hcanf fill)

end Sys2Proof.Proofs
end
